-- ==== Sys2Proof/Word.lean ====
section
/-! DEFINITION. The two word types of the machine: the 8-bit byte every access moves (20_memory.md R73) and the
16-bit address and register pair (10_state.md R32, R34). -/

namespace Sys2Proof

/-- A byte: an 8-bit register or one location of the address space (10_state.md R30, 20_memory.md R70). -/
abbrev Byte := BitVec 8

/-- A 16-bit value: an address, SP, PC or a register pair (10_state.md R32 to R34). -/
abbrev Word := BitVec 16

end Sys2Proof
end

