-- ==== Sys2Proof/WellFormed.lean ====
section
/-! DEFINITION. Which terms of `Instr` are instructions. Every operand has the width its format gives it (30_encoding.md
R131), so one check is left: 0xCB alone "is not an instruction of its own" (R147). -/

namespace Sys2Proof

/-- Whether a term is the bare prefix (R147). -/
def Instr.isPrefix (i : Instr) : Bool :=
  match i with
  | .prefix_cb _ => true
  | _ => false

/-- A well-formed instruction: one of the 511 the dispatch tables of R140 and R141 hold. -/
def Instr.wellFormed (i : Instr) : Bool := !i.isPrefix

end Sys2Proof
end

