-- ==== Sys2Proof/Decode.lean ====
section
/-! DEFINITION. Decoding (30_encoding.md R130 to R147): bytes to instructions by the opcode maps of R140 and R141, the
encoder written from the opcode table's match values, and the byte-order helpers. -/

namespace Sys2Proof

/-! ### Byte order (20_memory.md R71) -/

/-- `hi:lo`. -/
def wordOf (lo hi : Byte) : Word := hi ++ lo
/-- Bits 15..8. -/
def hiByte (w : Word) : Byte := w.extractLsb' 8 8
/-- Bits 7..0. -/
def loByte (w : Word) : Byte := w.extractLsb' 0 8

/-! ### The CB-prefixed map (R141), one definition per row of its table -/

/-- Row 0x of the CB map; the last line is column xF. -/
def decodeCb0 (lo : Nat) : Instr :=
  match lo with
  | 0x0 => .rlc_b
  | 0x1 => .rlc_c
  | 0x2 => .rlc_d
  | 0x3 => .rlc_e
  | 0x4 => .rlc_h
  | 0x5 => .rlc_l
  | 0x6 => .rlc_atHl
  | 0x7 => .rlc_a
  | 0x8 => .rrc_b
  | 0x9 => .rrc_c
  | 0xA => .rrc_d
  | 0xB => .rrc_e
  | 0xC => .rrc_h
  | 0xD => .rrc_l
  | 0xE => .rrc_atHl
  | _ => .rrc_a

/-- Row 1x of the CB map; the last line is column xF. -/
def decodeCb1 (lo : Nat) : Instr :=
  match lo with
  | 0x0 => .rl_b
  | 0x1 => .rl_c
  | 0x2 => .rl_d
  | 0x3 => .rl_e
  | 0x4 => .rl_h
  | 0x5 => .rl_l
  | 0x6 => .rl_atHl
  | 0x7 => .rl_a
  | 0x8 => .rr_b
  | 0x9 => .rr_c
  | 0xA => .rr_d
  | 0xB => .rr_e
  | 0xC => .rr_h
  | 0xD => .rr_l
  | 0xE => .rr_atHl
  | _ => .rr_a

/-- Row 2x of the CB map; the last line is column xF. -/
def decodeCb2 (lo : Nat) : Instr :=
  match lo with
  | 0x0 => .sla_b
  | 0x1 => .sla_c
  | 0x2 => .sla_d
  | 0x3 => .sla_e
  | 0x4 => .sla_h
  | 0x5 => .sla_l
  | 0x6 => .sla_atHl
  | 0x7 => .sla_a
  | 0x8 => .sra_b
  | 0x9 => .sra_c
  | 0xA => .sra_d
  | 0xB => .sra_e
  | 0xC => .sra_h
  | 0xD => .sra_l
  | 0xE => .sra_atHl
  | _ => .sra_a

/-- Row 3x of the CB map; the last line is column xF. -/
def decodeCb3 (lo : Nat) : Instr :=
  match lo with
  | 0x0 => .swap_b
  | 0x1 => .swap_c
  | 0x2 => .swap_d
  | 0x3 => .swap_e
  | 0x4 => .swap_h
  | 0x5 => .swap_l
  | 0x6 => .swap_atHl
  | 0x7 => .swap_a
  | 0x8 => .srl_b
  | 0x9 => .srl_c
  | 0xA => .srl_d
  | 0xB => .srl_e
  | 0xC => .srl_h
  | 0xD => .srl_l
  | 0xE => .srl_atHl
  | _ => .srl_a

/-- Row 4x of the CB map; the last line is column xF. -/
def decodeCb4 (lo : Nat) : Instr :=
  match lo with
  | 0x0 => .bit_0_b
  | 0x1 => .bit_0_c
  | 0x2 => .bit_0_d
  | 0x3 => .bit_0_e
  | 0x4 => .bit_0_h
  | 0x5 => .bit_0_l
  | 0x6 => .bit_0_atHl
  | 0x7 => .bit_0_a
  | 0x8 => .bit_1_b
  | 0x9 => .bit_1_c
  | 0xA => .bit_1_d
  | 0xB => .bit_1_e
  | 0xC => .bit_1_h
  | 0xD => .bit_1_l
  | 0xE => .bit_1_atHl
  | _ => .bit_1_a

/-- Row 5x of the CB map; the last line is column xF. -/
def decodeCb5 (lo : Nat) : Instr :=
  match lo with
  | 0x0 => .bit_2_b
  | 0x1 => .bit_2_c
  | 0x2 => .bit_2_d
  | 0x3 => .bit_2_e
  | 0x4 => .bit_2_h
  | 0x5 => .bit_2_l
  | 0x6 => .bit_2_atHl
  | 0x7 => .bit_2_a
  | 0x8 => .bit_3_b
  | 0x9 => .bit_3_c
  | 0xA => .bit_3_d
  | 0xB => .bit_3_e
  | 0xC => .bit_3_h
  | 0xD => .bit_3_l
  | 0xE => .bit_3_atHl
  | _ => .bit_3_a

/-- Row 6x of the CB map; the last line is column xF. -/
def decodeCb6 (lo : Nat) : Instr :=
  match lo with
  | 0x0 => .bit_4_b
  | 0x1 => .bit_4_c
  | 0x2 => .bit_4_d
  | 0x3 => .bit_4_e
  | 0x4 => .bit_4_h
  | 0x5 => .bit_4_l
  | 0x6 => .bit_4_atHl
  | 0x7 => .bit_4_a
  | 0x8 => .bit_5_b
  | 0x9 => .bit_5_c
  | 0xA => .bit_5_d
  | 0xB => .bit_5_e
  | 0xC => .bit_5_h
  | 0xD => .bit_5_l
  | 0xE => .bit_5_atHl
  | _ => .bit_5_a

/-- Row 7x of the CB map; the last line is column xF. -/
def decodeCb7 (lo : Nat) : Instr :=
  match lo with
  | 0x0 => .bit_6_b
  | 0x1 => .bit_6_c
  | 0x2 => .bit_6_d
  | 0x3 => .bit_6_e
  | 0x4 => .bit_6_h
  | 0x5 => .bit_6_l
  | 0x6 => .bit_6_atHl
  | 0x7 => .bit_6_a
  | 0x8 => .bit_7_b
  | 0x9 => .bit_7_c
  | 0xA => .bit_7_d
  | 0xB => .bit_7_e
  | 0xC => .bit_7_h
  | 0xD => .bit_7_l
  | 0xE => .bit_7_atHl
  | _ => .bit_7_a

/-- Row 8x of the CB map; the last line is column xF. -/
def decodeCb8 (lo : Nat) : Instr :=
  match lo with
  | 0x0 => .res_0_b
  | 0x1 => .res_0_c
  | 0x2 => .res_0_d
  | 0x3 => .res_0_e
  | 0x4 => .res_0_h
  | 0x5 => .res_0_l
  | 0x6 => .res_0_atHl
  | 0x7 => .res_0_a
  | 0x8 => .res_1_b
  | 0x9 => .res_1_c
  | 0xA => .res_1_d
  | 0xB => .res_1_e
  | 0xC => .res_1_h
  | 0xD => .res_1_l
  | 0xE => .res_1_atHl
  | _ => .res_1_a

/-- Row 9x of the CB map; the last line is column xF. -/
def decodeCb9 (lo : Nat) : Instr :=
  match lo with
  | 0x0 => .res_2_b
  | 0x1 => .res_2_c
  | 0x2 => .res_2_d
  | 0x3 => .res_2_e
  | 0x4 => .res_2_h
  | 0x5 => .res_2_l
  | 0x6 => .res_2_atHl
  | 0x7 => .res_2_a
  | 0x8 => .res_3_b
  | 0x9 => .res_3_c
  | 0xA => .res_3_d
  | 0xB => .res_3_e
  | 0xC => .res_3_h
  | 0xD => .res_3_l
  | 0xE => .res_3_atHl
  | _ => .res_3_a

/-- Row Ax of the CB map; the last line is column xF. -/
def decodeCbA (lo : Nat) : Instr :=
  match lo with
  | 0x0 => .res_4_b
  | 0x1 => .res_4_c
  | 0x2 => .res_4_d
  | 0x3 => .res_4_e
  | 0x4 => .res_4_h
  | 0x5 => .res_4_l
  | 0x6 => .res_4_atHl
  | 0x7 => .res_4_a
  | 0x8 => .res_5_b
  | 0x9 => .res_5_c
  | 0xA => .res_5_d
  | 0xB => .res_5_e
  | 0xC => .res_5_h
  | 0xD => .res_5_l
  | 0xE => .res_5_atHl
  | _ => .res_5_a

/-- Row Bx of the CB map; the last line is column xF. -/
def decodeCbB (lo : Nat) : Instr :=
  match lo with
  | 0x0 => .res_6_b
  | 0x1 => .res_6_c
  | 0x2 => .res_6_d
  | 0x3 => .res_6_e
  | 0x4 => .res_6_h
  | 0x5 => .res_6_l
  | 0x6 => .res_6_atHl
  | 0x7 => .res_6_a
  | 0x8 => .res_7_b
  | 0x9 => .res_7_c
  | 0xA => .res_7_d
  | 0xB => .res_7_e
  | 0xC => .res_7_h
  | 0xD => .res_7_l
  | 0xE => .res_7_atHl
  | _ => .res_7_a

/-- Row Cx of the CB map; the last line is column xF. -/
def decodeCbC (lo : Nat) : Instr :=
  match lo with
  | 0x0 => .set_0_b
  | 0x1 => .set_0_c
  | 0x2 => .set_0_d
  | 0x3 => .set_0_e
  | 0x4 => .set_0_h
  | 0x5 => .set_0_l
  | 0x6 => .set_0_atHl
  | 0x7 => .set_0_a
  | 0x8 => .set_1_b
  | 0x9 => .set_1_c
  | 0xA => .set_1_d
  | 0xB => .set_1_e
  | 0xC => .set_1_h
  | 0xD => .set_1_l
  | 0xE => .set_1_atHl
  | _ => .set_1_a

/-- Row Dx of the CB map; the last line is column xF. -/
def decodeCbD (lo : Nat) : Instr :=
  match lo with
  | 0x0 => .set_2_b
  | 0x1 => .set_2_c
  | 0x2 => .set_2_d
  | 0x3 => .set_2_e
  | 0x4 => .set_2_h
  | 0x5 => .set_2_l
  | 0x6 => .set_2_atHl
  | 0x7 => .set_2_a
  | 0x8 => .set_3_b
  | 0x9 => .set_3_c
  | 0xA => .set_3_d
  | 0xB => .set_3_e
  | 0xC => .set_3_h
  | 0xD => .set_3_l
  | 0xE => .set_3_atHl
  | _ => .set_3_a

/-- Row Ex of the CB map; the last line is column xF. -/
def decodeCbE (lo : Nat) : Instr :=
  match lo with
  | 0x0 => .set_4_b
  | 0x1 => .set_4_c
  | 0x2 => .set_4_d
  | 0x3 => .set_4_e
  | 0x4 => .set_4_h
  | 0x5 => .set_4_l
  | 0x6 => .set_4_atHl
  | 0x7 => .set_4_a
  | 0x8 => .set_5_b
  | 0x9 => .set_5_c
  | 0xA => .set_5_d
  | 0xB => .set_5_e
  | 0xC => .set_5_h
  | 0xD => .set_5_l
  | 0xE => .set_5_atHl
  | _ => .set_5_a

/-- Row Fx of the CB map; the last line is column xF. -/
def decodeCbF (lo : Nat) : Instr :=
  match lo with
  | 0x0 => .set_6_b
  | 0x1 => .set_6_c
  | 0x2 => .set_6_d
  | 0x3 => .set_6_e
  | 0x4 => .set_6_h
  | 0x5 => .set_6_l
  | 0x6 => .set_6_atHl
  | 0x7 => .set_6_a
  | 0x8 => .set_7_b
  | 0x9 => .set_7_c
  | 0xA => .set_7_d
  | 0xB => .set_7_e
  | 0xC => .set_7_h
  | 0xD => .set_7_l
  | 0xE => .set_7_atHl
  | _ => .set_7_a

/-- The CB-table entry of a second byte (R141): its high nibble is the row, its low nibble the column. -/
def decodeCb (cbop : Byte) : Instr :=
  match cbop.toNat / 16 with
  | 0x0 => decodeCb0 (cbop.toNat % 16)
  | 0x1 => decodeCb1 (cbop.toNat % 16)
  | 0x2 => decodeCb2 (cbop.toNat % 16)
  | 0x3 => decodeCb3 (cbop.toNat % 16)
  | 0x4 => decodeCb4 (cbop.toNat % 16)
  | 0x5 => decodeCb5 (cbop.toNat % 16)
  | 0x6 => decodeCb6 (cbop.toNat % 16)
  | 0x7 => decodeCb7 (cbop.toNat % 16)
  | 0x8 => decodeCb8 (cbop.toNat % 16)
  | 0x9 => decodeCb9 (cbop.toNat % 16)
  | 0xA => decodeCbA (cbop.toNat % 16)
  | 0xB => decodeCbB (cbop.toNat % 16)
  | 0xC => decodeCbC (cbop.toNat % 16)
  | 0xD => decodeCbD (cbop.toNat % 16)
  | 0xE => decodeCbE (cbop.toNat % 16)
  | _ => decodeCbF (cbop.toNat % 16)

/-! ### The primary map (R140), one definition per row of its table; n1 and n2 are the bytes after the opcode -/

/-- Row 0x of the primary map; the last line is column xF. -/
def decodeRow0 (lo : Nat) (n1 n2 : Byte) : Instr :=
  match lo with
  | 0x0 => .nop
  | 0x1 => .ld_bc_nn (wordOf n1 n2)
  | 0x2 => .ld_atBc_a
  | 0x3 => .inc_bc
  | 0x4 => .inc_b
  | 0x5 => .dec_b
  | 0x6 => .ld_b_n n1
  | 0x7 => .rlca
  | 0x8 => .ld_atNn_sp (wordOf n1 n2)
  | 0x9 => .add_hl_bc
  | 0xA => .ld_a_atBc
  | 0xB => .dec_bc
  | 0xC => .inc_c
  | 0xD => .dec_c
  | 0xE => .ld_c_n n1
  | _ => .rrca

/-- Row 1x of the primary map; the last line is column xF. -/
def decodeRow1 (lo : Nat) (n1 n2 : Byte) : Instr :=
  match lo with
  | 0x0 => .stop n1
  | 0x1 => .ld_de_nn (wordOf n1 n2)
  | 0x2 => .ld_atDe_a
  | 0x3 => .inc_de
  | 0x4 => .inc_d
  | 0x5 => .dec_d
  | 0x6 => .ld_d_n n1
  | 0x7 => .rla
  | 0x8 => .jr_e n1
  | 0x9 => .add_hl_de
  | 0xA => .ld_a_atDe
  | 0xB => .dec_de
  | 0xC => .inc_e
  | 0xD => .dec_e
  | 0xE => .ld_e_n n1
  | _ => .rra

/-- Row 2x of the primary map; the last line is column xF. -/
def decodeRow2 (lo : Nat) (n1 n2 : Byte) : Instr :=
  match lo with
  | 0x0 => .jr_nz_e n1
  | 0x1 => .ld_hl_nn (wordOf n1 n2)
  | 0x2 => .ld_atHlInc_a
  | 0x3 => .inc_hl
  | 0x4 => .inc_h
  | 0x5 => .dec_h
  | 0x6 => .ld_h_n n1
  | 0x7 => .daa
  | 0x8 => .jr_z_e n1
  | 0x9 => .add_hl_hl
  | 0xA => .ld_a_atHlInc
  | 0xB => .dec_hl
  | 0xC => .inc_l
  | 0xD => .dec_l
  | 0xE => .ld_l_n n1
  | _ => .cpl

/-- Row 3x of the primary map; the last line is column xF. -/
def decodeRow3 (lo : Nat) (n1 n2 : Byte) : Instr :=
  match lo with
  | 0x0 => .jr_nc_e n1
  | 0x1 => .ld_sp_nn (wordOf n1 n2)
  | 0x2 => .ld_atHlDec_a
  | 0x3 => .inc_sp
  | 0x4 => .inc_atHl
  | 0x5 => .dec_atHl
  | 0x6 => .ld_atHl_n n1
  | 0x7 => .scf
  | 0x8 => .jr_c_e n1
  | 0x9 => .add_hl_sp
  | 0xA => .ld_a_atHlDec
  | 0xB => .dec_sp
  | 0xC => .inc_a
  | 0xD => .dec_a
  | 0xE => .ld_a_n n1
  | _ => .ccf

/-- Row 4x of the primary map; the last line is column xF. -/
def decodeRow4 (lo : Nat) (_n1 _n2 : Byte) : Instr :=
  match lo with
  | 0x0 => .ld_b_b
  | 0x1 => .ld_b_c
  | 0x2 => .ld_b_d
  | 0x3 => .ld_b_e
  | 0x4 => .ld_b_h
  | 0x5 => .ld_b_l
  | 0x6 => .ld_b_atHl
  | 0x7 => .ld_b_a
  | 0x8 => .ld_c_b
  | 0x9 => .ld_c_c
  | 0xA => .ld_c_d
  | 0xB => .ld_c_e
  | 0xC => .ld_c_h
  | 0xD => .ld_c_l
  | 0xE => .ld_c_atHl
  | _ => .ld_c_a

/-- Row 5x of the primary map; the last line is column xF. -/
def decodeRow5 (lo : Nat) (_n1 _n2 : Byte) : Instr :=
  match lo with
  | 0x0 => .ld_d_b
  | 0x1 => .ld_d_c
  | 0x2 => .ld_d_d
  | 0x3 => .ld_d_e
  | 0x4 => .ld_d_h
  | 0x5 => .ld_d_l
  | 0x6 => .ld_d_atHl
  | 0x7 => .ld_d_a
  | 0x8 => .ld_e_b
  | 0x9 => .ld_e_c
  | 0xA => .ld_e_d
  | 0xB => .ld_e_e
  | 0xC => .ld_e_h
  | 0xD => .ld_e_l
  | 0xE => .ld_e_atHl
  | _ => .ld_e_a

/-- Row 6x of the primary map; the last line is column xF. -/
def decodeRow6 (lo : Nat) (_n1 _n2 : Byte) : Instr :=
  match lo with
  | 0x0 => .ld_h_b
  | 0x1 => .ld_h_c
  | 0x2 => .ld_h_d
  | 0x3 => .ld_h_e
  | 0x4 => .ld_h_h
  | 0x5 => .ld_h_l
  | 0x6 => .ld_h_atHl
  | 0x7 => .ld_h_a
  | 0x8 => .ld_l_b
  | 0x9 => .ld_l_c
  | 0xA => .ld_l_d
  | 0xB => .ld_l_e
  | 0xC => .ld_l_h
  | 0xD => .ld_l_l
  | 0xE => .ld_l_atHl
  | _ => .ld_l_a

/-- Row 7x of the primary map; the last line is column xF. -/
def decodeRow7 (lo : Nat) (_n1 _n2 : Byte) : Instr :=
  match lo with
  | 0x0 => .ld_atHl_b
  | 0x1 => .ld_atHl_c
  | 0x2 => .ld_atHl_d
  | 0x3 => .ld_atHl_e
  | 0x4 => .ld_atHl_h
  | 0x5 => .ld_atHl_l
  | 0x6 => .halt
  | 0x7 => .ld_atHl_a
  | 0x8 => .ld_a_b
  | 0x9 => .ld_a_c
  | 0xA => .ld_a_d
  | 0xB => .ld_a_e
  | 0xC => .ld_a_h
  | 0xD => .ld_a_l
  | 0xE => .ld_a_atHl
  | _ => .ld_a_a

/-- Row 8x of the primary map; the last line is column xF. -/
def decodeRow8 (lo : Nat) (_n1 _n2 : Byte) : Instr :=
  match lo with
  | 0x0 => .add_a_b
  | 0x1 => .add_a_c
  | 0x2 => .add_a_d
  | 0x3 => .add_a_e
  | 0x4 => .add_a_h
  | 0x5 => .add_a_l
  | 0x6 => .add_a_atHl
  | 0x7 => .add_a_a
  | 0x8 => .adc_a_b
  | 0x9 => .adc_a_c
  | 0xA => .adc_a_d
  | 0xB => .adc_a_e
  | 0xC => .adc_a_h
  | 0xD => .adc_a_l
  | 0xE => .adc_a_atHl
  | _ => .adc_a_a

/-- Row 9x of the primary map; the last line is column xF. -/
def decodeRow9 (lo : Nat) (_n1 _n2 : Byte) : Instr :=
  match lo with
  | 0x0 => .sub_b
  | 0x1 => .sub_c
  | 0x2 => .sub_d
  | 0x3 => .sub_e
  | 0x4 => .sub_h
  | 0x5 => .sub_l
  | 0x6 => .sub_atHl
  | 0x7 => .sub_a
  | 0x8 => .sbc_a_b
  | 0x9 => .sbc_a_c
  | 0xA => .sbc_a_d
  | 0xB => .sbc_a_e
  | 0xC => .sbc_a_h
  | 0xD => .sbc_a_l
  | 0xE => .sbc_a_atHl
  | _ => .sbc_a_a

/-- Row Ax of the primary map; the last line is column xF. -/
def decodeRowA (lo : Nat) (_n1 _n2 : Byte) : Instr :=
  match lo with
  | 0x0 => .and_b
  | 0x1 => .and_c
  | 0x2 => .and_d
  | 0x3 => .and_e
  | 0x4 => .and_h
  | 0x5 => .and_l
  | 0x6 => .and_atHl
  | 0x7 => .and_a
  | 0x8 => .xor_b
  | 0x9 => .xor_c
  | 0xA => .xor_d
  | 0xB => .xor_e
  | 0xC => .xor_h
  | 0xD => .xor_l
  | 0xE => .xor_atHl
  | _ => .xor_a

/-- Row Bx of the primary map; the last line is column xF. -/
def decodeRowB (lo : Nat) (_n1 _n2 : Byte) : Instr :=
  match lo with
  | 0x0 => .or_b
  | 0x1 => .or_c
  | 0x2 => .or_d
  | 0x3 => .or_e
  | 0x4 => .or_h
  | 0x5 => .or_l
  | 0x6 => .or_atHl
  | 0x7 => .or_a
  | 0x8 => .cp_b
  | 0x9 => .cp_c
  | 0xA => .cp_d
  | 0xB => .cp_e
  | 0xC => .cp_h
  | 0xD => .cp_l
  | 0xE => .cp_atHl
  | _ => .cp_a

/-- Row Cx of the primary map; the last line is column xF. -/
def decodeRowC (lo : Nat) (n1 n2 : Byte) : Instr :=
  match lo with
  | 0x0 => .ret_nz
  | 0x1 => .pop_bc
  | 0x2 => .jp_nz_nn (wordOf n1 n2)
  | 0x3 => .jp_nn (wordOf n1 n2)
  | 0x4 => .call_nz_nn (wordOf n1 n2)
  | 0x5 => .push_bc
  | 0x6 => .add_a_n n1
  | 0x7 => .rst_00
  | 0x8 => .ret_z
  | 0x9 => .ret
  | 0xA => .jp_z_nn (wordOf n1 n2)
  | 0xB => decodeCb n1
  | 0xC => .call_z_nn (wordOf n1 n2)
  | 0xD => .call_nn (wordOf n1 n2)
  | 0xE => .adc_a_n n1
  | _ => .rst_08

/-- Row Dx of the primary map; the last line is column xF. -/
def decodeRowD (lo : Nat) (n1 n2 : Byte) : Instr :=
  match lo with
  | 0x0 => .ret_nc
  | 0x1 => .pop_de
  | 0x2 => .jp_nc_nn (wordOf n1 n2)
  | 0x3 => .illegal_d3
  | 0x4 => .call_nc_nn (wordOf n1 n2)
  | 0x5 => .push_de
  | 0x6 => .sub_n n1
  | 0x7 => .rst_10
  | 0x8 => .ret_c
  | 0x9 => .reti
  | 0xA => .jp_c_nn (wordOf n1 n2)
  | 0xB => .illegal_db
  | 0xC => .call_c_nn (wordOf n1 n2)
  | 0xD => .illegal_dd
  | 0xE => .sbc_a_n n1
  | _ => .rst_18

/-- Row Ex of the primary map; the last line is column xF. -/
def decodeRowE (lo : Nat) (n1 n2 : Byte) : Instr :=
  match lo with
  | 0x0 => .ldh_atN_a n1
  | 0x1 => .pop_hl
  | 0x2 => .ld_atC_a
  | 0x3 => .illegal_e3
  | 0x4 => .illegal_e4
  | 0x5 => .push_hl
  | 0x6 => .and_n n1
  | 0x7 => .rst_20
  | 0x8 => .add_sp_e n1
  | 0x9 => .jp_hl
  | 0xA => .ld_atNn_a (wordOf n1 n2)
  | 0xB => .illegal_eb
  | 0xC => .illegal_ec
  | 0xD => .illegal_ed
  | 0xE => .xor_n n1
  | _ => .rst_28

/-- Row Fx of the primary map; the last line is column xF. -/
def decodeRowF (lo : Nat) (n1 n2 : Byte) : Instr :=
  match lo with
  | 0x0 => .ldh_a_atN n1
  | 0x1 => .pop_af
  | 0x2 => .ld_a_atC
  | 0x3 => .di
  | 0x4 => .illegal_f4
  | 0x5 => .push_af
  | 0x6 => .or_n n1
  | 0x7 => .rst_30
  | 0x8 => .ld_hl_spE n1
  | 0x9 => .ld_sp_hl
  | 0xA => .ld_a_atNn (wordOf n1 n2)
  | 0xB => .ei
  | 0xC => .illegal_fc
  | 0xD => .illegal_fd
  | 0xE => .cp_n n1
  | _ => .rst_38

/-- The primary-table entry of an opcode (R134, R140), given the two bytes after it. -/
def decodeOp (op n1 n2 : Byte) : Instr :=
  match op.toNat / 16 with
  | 0x0 => decodeRow0 (op.toNat % 16) n1 n2
  | 0x1 => decodeRow1 (op.toNat % 16) n1 n2
  | 0x2 => decodeRow2 (op.toNat % 16) n1 n2
  | 0x3 => decodeRow3 (op.toNat % 16) n1 n2
  | 0x4 => decodeRow4 (op.toNat % 16) n1 n2
  | 0x5 => decodeRow5 (op.toNat % 16) n1 n2
  | 0x6 => decodeRow6 (op.toNat % 16) n1 n2
  | 0x7 => decodeRow7 (op.toNat % 16) n1 n2
  | 0x8 => decodeRow8 (op.toNat % 16) n1 n2
  | 0x9 => decodeRow9 (op.toNat % 16) n1 n2
  | 0xA => decodeRowA (op.toNat % 16) n1 n2
  | 0xB => decodeRowB (op.toNat % 16) n1 n2
  | 0xC => decodeRowC (op.toNat % 16) n1 n2
  | 0xD => decodeRowD (op.toNat % 16) n1 n2
  | 0xE => decodeRowE (op.toNat % 16) n1 n2
  | _ => decodeRowF (op.toNat % 16) n1 n2

/-! ### Lengths (R138) -/

/-- The opcodes of 3-byte instructions. -/
def threeByteOpcodes : List Nat :=
  [0x01, 0x08, 0x11, 0x21, 0x31, 0xC2, 0xC3, 0xC4, 0xCA, 0xCC, 0xCD, 0xD2, 0xD4, 0xDA, 0xDC, 0xEA, 0xFA]

/-- The opcodes of 2-byte instructions, the prefix and STOP among them. -/
def twoByteOpcodes : List Nat :=
  [0x06, 0x0E, 0x10, 0x16, 0x18, 0x1E, 0x20, 0x26, 0x28, 0x2E, 0x30, 0x36, 0x38, 0x3E, 0xC6, 0xCB, 0xCE,
   0xD6, 0xDE, 0xE0, 0xE6, 0xE8, 0xEE, 0xF0, 0xF6, 0xF8, 0xFE]

/-- An instruction's length by its first byte (R138). -/
def instrLength (op : Byte) : Nat :=
  if threeByteOpcodes.elem op.toNat then 3 else if twoByteOpcodes.elem op.toNat then 2 else 1

/-! ### Decoding a byte list -/

/-- Why a byte list holds no instruction. There is no undefined encoding (R143): only a list that ends too soon. -/
inductive DecodeError where
  /-- The list is empty. -/
  | noByte
  /-- The instruction of this opcode is longer than the list. -/
  | truncated (opcode : Byte)
  deriving DecidableEq, Repr

/-- The first instruction of a byte list with the bytes after it (R130, R134). -/
def decode : List Byte → Except DecodeError (Instr × List Byte)
  | [] => .error .noByte
  | op :: rest =>
    match instrLength op, rest with
    | 3, n1 :: n2 :: after => .ok (decodeOp op n1 n2, after)
    | 2, n1 :: after => .ok (decodeOp op n1 0, after)
    | 1, after => .ok (decodeOp op 0 0, after)
    | _, _ => .error (.truncated op)

/-! ### Encoding (the match column of spec/opcode_table.json; operand bytes by R131, R133) -/

/-- The bytes of an instruction; those of the bare prefix are 0xCB and its second byte. -/
def encode : Instr → List Byte
  | .ld_bc_nn nn => [0x01, loByte nn, hiByte nn]
  | .ld_b_n n => [0x06, n]
  | .ld_atNn_sp nn => [0x08, loByte nn, hiByte nn]
  | .ld_c_n n => [0x0E, n]
  | .stop pad => [0x10, pad]
  | .ld_de_nn nn => [0x11, loByte nn, hiByte nn]
  | .ld_d_n n => [0x16, n]
  | .jr_e e => [0x18, e]
  | .ld_e_n n => [0x1E, n]
  | .jr_nz_e e => [0x20, e]
  | .ld_hl_nn nn => [0x21, loByte nn, hiByte nn]
  | .ld_h_n n => [0x26, n]
  | .jr_z_e e => [0x28, e]
  | .ld_l_n n => [0x2E, n]
  | .jr_nc_e e => [0x30, e]
  | .ld_sp_nn nn => [0x31, loByte nn, hiByte nn]
  | .ld_atHl_n n => [0x36, n]
  | .jr_c_e e => [0x38, e]
  | .ld_a_n n => [0x3E, n]
  | .jp_nz_nn nn => [0xC2, loByte nn, hiByte nn]
  | .jp_nn nn => [0xC3, loByte nn, hiByte nn]
  | .call_nz_nn nn => [0xC4, loByte nn, hiByte nn]
  | .add_a_n n => [0xC6, n]
  | .jp_z_nn nn => [0xCA, loByte nn, hiByte nn]
  | .prefix_cb cbop => [0xCB, cbop]
  | .call_z_nn nn => [0xCC, loByte nn, hiByte nn]
  | .call_nn nn => [0xCD, loByte nn, hiByte nn]
  | .adc_a_n n => [0xCE, n]
  | .jp_nc_nn nn => [0xD2, loByte nn, hiByte nn]
  | .call_nc_nn nn => [0xD4, loByte nn, hiByte nn]
  | .sub_n n => [0xD6, n]
  | .jp_c_nn nn => [0xDA, loByte nn, hiByte nn]
  | .call_c_nn nn => [0xDC, loByte nn, hiByte nn]
  | .sbc_a_n n => [0xDE, n]
  | .ldh_atN_a n => [0xE0, n]
  | .and_n n => [0xE6, n]
  | .add_sp_e e => [0xE8, e]
  | .ld_atNn_a nn => [0xEA, loByte nn, hiByte nn]
  | .xor_n n => [0xEE, n]
  | .ldh_a_atN n => [0xF0, n]
  | .or_n n => [0xF6, n]
  | .ld_hl_spE e => [0xF8, e]
  | .ld_a_atNn nn => [0xFA, loByte nn, hiByte nn]
  | .cp_n n => [0xFE, n]
  | .nop => [0x00]
  | .ld_atBc_a => [0x02]
  | .inc_bc => [0x03]
  | .inc_b => [0x04]
  | .dec_b => [0x05]
  | .rlca => [0x07]
  | .add_hl_bc => [0x09]
  | .ld_a_atBc => [0x0A]
  | .dec_bc => [0x0B]
  | .inc_c => [0x0C]
  | .dec_c => [0x0D]
  | .rrca => [0x0F]
  | .ld_atDe_a => [0x12]
  | .inc_de => [0x13]
  | .inc_d => [0x14]
  | .dec_d => [0x15]
  | .rla => [0x17]
  | .add_hl_de => [0x19]
  | .ld_a_atDe => [0x1A]
  | .dec_de => [0x1B]
  | .inc_e => [0x1C]
  | .dec_e => [0x1D]
  | .rra => [0x1F]
  | .ld_atHlInc_a => [0x22]
  | .inc_hl => [0x23]
  | .inc_h => [0x24]
  | .dec_h => [0x25]
  | .daa => [0x27]
  | .add_hl_hl => [0x29]
  | .ld_a_atHlInc => [0x2A]
  | .dec_hl => [0x2B]
  | .inc_l => [0x2C]
  | .dec_l => [0x2D]
  | .cpl => [0x2F]
  | .ld_atHlDec_a => [0x32]
  | .inc_sp => [0x33]
  | .inc_atHl => [0x34]
  | .dec_atHl => [0x35]
  | .scf => [0x37]
  | .add_hl_sp => [0x39]
  | .ld_a_atHlDec => [0x3A]
  | .dec_sp => [0x3B]
  | .inc_a => [0x3C]
  | .dec_a => [0x3D]
  | .ccf => [0x3F]
  | .ld_b_b => [0x40]
  | .ld_b_c => [0x41]
  | .ld_b_d => [0x42]
  | .ld_b_e => [0x43]
  | .ld_b_h => [0x44]
  | .ld_b_l => [0x45]
  | .ld_b_atHl => [0x46]
  | .ld_b_a => [0x47]
  | .ld_c_b => [0x48]
  | .ld_c_c => [0x49]
  | .ld_c_d => [0x4A]
  | .ld_c_e => [0x4B]
  | .ld_c_h => [0x4C]
  | .ld_c_l => [0x4D]
  | .ld_c_atHl => [0x4E]
  | .ld_c_a => [0x4F]
  | .ld_d_b => [0x50]
  | .ld_d_c => [0x51]
  | .ld_d_d => [0x52]
  | .ld_d_e => [0x53]
  | .ld_d_h => [0x54]
  | .ld_d_l => [0x55]
  | .ld_d_atHl => [0x56]
  | .ld_d_a => [0x57]
  | .ld_e_b => [0x58]
  | .ld_e_c => [0x59]
  | .ld_e_d => [0x5A]
  | .ld_e_e => [0x5B]
  | .ld_e_h => [0x5C]
  | .ld_e_l => [0x5D]
  | .ld_e_atHl => [0x5E]
  | .ld_e_a => [0x5F]
  | .ld_h_b => [0x60]
  | .ld_h_c => [0x61]
  | .ld_h_d => [0x62]
  | .ld_h_e => [0x63]
  | .ld_h_h => [0x64]
  | .ld_h_l => [0x65]
  | .ld_h_atHl => [0x66]
  | .ld_h_a => [0x67]
  | .ld_l_b => [0x68]
  | .ld_l_c => [0x69]
  | .ld_l_d => [0x6A]
  | .ld_l_e => [0x6B]
  | .ld_l_h => [0x6C]
  | .ld_l_l => [0x6D]
  | .ld_l_atHl => [0x6E]
  | .ld_l_a => [0x6F]
  | .ld_atHl_b => [0x70]
  | .ld_atHl_c => [0x71]
  | .ld_atHl_d => [0x72]
  | .ld_atHl_e => [0x73]
  | .ld_atHl_h => [0x74]
  | .ld_atHl_l => [0x75]
  | .halt => [0x76]
  | .ld_atHl_a => [0x77]
  | .ld_a_b => [0x78]
  | .ld_a_c => [0x79]
  | .ld_a_d => [0x7A]
  | .ld_a_e => [0x7B]
  | .ld_a_h => [0x7C]
  | .ld_a_l => [0x7D]
  | .ld_a_atHl => [0x7E]
  | .ld_a_a => [0x7F]
  | .add_a_b => [0x80]
  | .add_a_c => [0x81]
  | .add_a_d => [0x82]
  | .add_a_e => [0x83]
  | .add_a_h => [0x84]
  | .add_a_l => [0x85]
  | .add_a_atHl => [0x86]
  | .add_a_a => [0x87]
  | .adc_a_b => [0x88]
  | .adc_a_c => [0x89]
  | .adc_a_d => [0x8A]
  | .adc_a_e => [0x8B]
  | .adc_a_h => [0x8C]
  | .adc_a_l => [0x8D]
  | .adc_a_atHl => [0x8E]
  | .adc_a_a => [0x8F]
  | .sub_b => [0x90]
  | .sub_c => [0x91]
  | .sub_d => [0x92]
  | .sub_e => [0x93]
  | .sub_h => [0x94]
  | .sub_l => [0x95]
  | .sub_atHl => [0x96]
  | .sub_a => [0x97]
  | .sbc_a_b => [0x98]
  | .sbc_a_c => [0x99]
  | .sbc_a_d => [0x9A]
  | .sbc_a_e => [0x9B]
  | .sbc_a_h => [0x9C]
  | .sbc_a_l => [0x9D]
  | .sbc_a_atHl => [0x9E]
  | .sbc_a_a => [0x9F]
  | .and_b => [0xA0]
  | .and_c => [0xA1]
  | .and_d => [0xA2]
  | .and_e => [0xA3]
  | .and_h => [0xA4]
  | .and_l => [0xA5]
  | .and_atHl => [0xA6]
  | .and_a => [0xA7]
  | .xor_b => [0xA8]
  | .xor_c => [0xA9]
  | .xor_d => [0xAA]
  | .xor_e => [0xAB]
  | .xor_h => [0xAC]
  | .xor_l => [0xAD]
  | .xor_atHl => [0xAE]
  | .xor_a => [0xAF]
  | .or_b => [0xB0]
  | .or_c => [0xB1]
  | .or_d => [0xB2]
  | .or_e => [0xB3]
  | .or_h => [0xB4]
  | .or_l => [0xB5]
  | .or_atHl => [0xB6]
  | .or_a => [0xB7]
  | .cp_b => [0xB8]
  | .cp_c => [0xB9]
  | .cp_d => [0xBA]
  | .cp_e => [0xBB]
  | .cp_h => [0xBC]
  | .cp_l => [0xBD]
  | .cp_atHl => [0xBE]
  | .cp_a => [0xBF]
  | .ret_nz => [0xC0]
  | .pop_bc => [0xC1]
  | .push_bc => [0xC5]
  | .rst_00 => [0xC7]
  | .ret_z => [0xC8]
  | .ret => [0xC9]
  | .rst_08 => [0xCF]
  | .ret_nc => [0xD0]
  | .pop_de => [0xD1]
  | .illegal_d3 => [0xD3]
  | .push_de => [0xD5]
  | .rst_10 => [0xD7]
  | .ret_c => [0xD8]
  | .reti => [0xD9]
  | .illegal_db => [0xDB]
  | .illegal_dd => [0xDD]
  | .rst_18 => [0xDF]
  | .pop_hl => [0xE1]
  | .ld_atC_a => [0xE2]
  | .illegal_e3 => [0xE3]
  | .illegal_e4 => [0xE4]
  | .push_hl => [0xE5]
  | .rst_20 => [0xE7]
  | .jp_hl => [0xE9]
  | .illegal_eb => [0xEB]
  | .illegal_ec => [0xEC]
  | .illegal_ed => [0xED]
  | .rst_28 => [0xEF]
  | .pop_af => [0xF1]
  | .ld_a_atC => [0xF2]
  | .di => [0xF3]
  | .illegal_f4 => [0xF4]
  | .push_af => [0xF5]
  | .rst_30 => [0xF7]
  | .ld_sp_hl => [0xF9]
  | .ei => [0xFB]
  | .illegal_fc => [0xFC]
  | .illegal_fd => [0xFD]
  | .rst_38 => [0xFF]
  | .rlc_b => [0xCB, 0x00]
  | .rlc_c => [0xCB, 0x01]
  | .rlc_d => [0xCB, 0x02]
  | .rlc_e => [0xCB, 0x03]
  | .rlc_h => [0xCB, 0x04]
  | .rlc_l => [0xCB, 0x05]
  | .rlc_atHl => [0xCB, 0x06]
  | .rlc_a => [0xCB, 0x07]
  | .rrc_b => [0xCB, 0x08]
  | .rrc_c => [0xCB, 0x09]
  | .rrc_d => [0xCB, 0x0A]
  | .rrc_e => [0xCB, 0x0B]
  | .rrc_h => [0xCB, 0x0C]
  | .rrc_l => [0xCB, 0x0D]
  | .rrc_atHl => [0xCB, 0x0E]
  | .rrc_a => [0xCB, 0x0F]
  | .rl_b => [0xCB, 0x10]
  | .rl_c => [0xCB, 0x11]
  | .rl_d => [0xCB, 0x12]
  | .rl_e => [0xCB, 0x13]
  | .rl_h => [0xCB, 0x14]
  | .rl_l => [0xCB, 0x15]
  | .rl_atHl => [0xCB, 0x16]
  | .rl_a => [0xCB, 0x17]
  | .rr_b => [0xCB, 0x18]
  | .rr_c => [0xCB, 0x19]
  | .rr_d => [0xCB, 0x1A]
  | .rr_e => [0xCB, 0x1B]
  | .rr_h => [0xCB, 0x1C]
  | .rr_l => [0xCB, 0x1D]
  | .rr_atHl => [0xCB, 0x1E]
  | .rr_a => [0xCB, 0x1F]
  | .sla_b => [0xCB, 0x20]
  | .sla_c => [0xCB, 0x21]
  | .sla_d => [0xCB, 0x22]
  | .sla_e => [0xCB, 0x23]
  | .sla_h => [0xCB, 0x24]
  | .sla_l => [0xCB, 0x25]
  | .sla_atHl => [0xCB, 0x26]
  | .sla_a => [0xCB, 0x27]
  | .sra_b => [0xCB, 0x28]
  | .sra_c => [0xCB, 0x29]
  | .sra_d => [0xCB, 0x2A]
  | .sra_e => [0xCB, 0x2B]
  | .sra_h => [0xCB, 0x2C]
  | .sra_l => [0xCB, 0x2D]
  | .sra_atHl => [0xCB, 0x2E]
  | .sra_a => [0xCB, 0x2F]
  | .swap_b => [0xCB, 0x30]
  | .swap_c => [0xCB, 0x31]
  | .swap_d => [0xCB, 0x32]
  | .swap_e => [0xCB, 0x33]
  | .swap_h => [0xCB, 0x34]
  | .swap_l => [0xCB, 0x35]
  | .swap_atHl => [0xCB, 0x36]
  | .swap_a => [0xCB, 0x37]
  | .srl_b => [0xCB, 0x38]
  | .srl_c => [0xCB, 0x39]
  | .srl_d => [0xCB, 0x3A]
  | .srl_e => [0xCB, 0x3B]
  | .srl_h => [0xCB, 0x3C]
  | .srl_l => [0xCB, 0x3D]
  | .srl_atHl => [0xCB, 0x3E]
  | .srl_a => [0xCB, 0x3F]
  | .bit_0_b => [0xCB, 0x40]
  | .bit_0_c => [0xCB, 0x41]
  | .bit_0_d => [0xCB, 0x42]
  | .bit_0_e => [0xCB, 0x43]
  | .bit_0_h => [0xCB, 0x44]
  | .bit_0_l => [0xCB, 0x45]
  | .bit_0_atHl => [0xCB, 0x46]
  | .bit_0_a => [0xCB, 0x47]
  | .bit_1_b => [0xCB, 0x48]
  | .bit_1_c => [0xCB, 0x49]
  | .bit_1_d => [0xCB, 0x4A]
  | .bit_1_e => [0xCB, 0x4B]
  | .bit_1_h => [0xCB, 0x4C]
  | .bit_1_l => [0xCB, 0x4D]
  | .bit_1_atHl => [0xCB, 0x4E]
  | .bit_1_a => [0xCB, 0x4F]
  | .bit_2_b => [0xCB, 0x50]
  | .bit_2_c => [0xCB, 0x51]
  | .bit_2_d => [0xCB, 0x52]
  | .bit_2_e => [0xCB, 0x53]
  | .bit_2_h => [0xCB, 0x54]
  | .bit_2_l => [0xCB, 0x55]
  | .bit_2_atHl => [0xCB, 0x56]
  | .bit_2_a => [0xCB, 0x57]
  | .bit_3_b => [0xCB, 0x58]
  | .bit_3_c => [0xCB, 0x59]
  | .bit_3_d => [0xCB, 0x5A]
  | .bit_3_e => [0xCB, 0x5B]
  | .bit_3_h => [0xCB, 0x5C]
  | .bit_3_l => [0xCB, 0x5D]
  | .bit_3_atHl => [0xCB, 0x5E]
  | .bit_3_a => [0xCB, 0x5F]
  | .bit_4_b => [0xCB, 0x60]
  | .bit_4_c => [0xCB, 0x61]
  | .bit_4_d => [0xCB, 0x62]
  | .bit_4_e => [0xCB, 0x63]
  | .bit_4_h => [0xCB, 0x64]
  | .bit_4_l => [0xCB, 0x65]
  | .bit_4_atHl => [0xCB, 0x66]
  | .bit_4_a => [0xCB, 0x67]
  | .bit_5_b => [0xCB, 0x68]
  | .bit_5_c => [0xCB, 0x69]
  | .bit_5_d => [0xCB, 0x6A]
  | .bit_5_e => [0xCB, 0x6B]
  | .bit_5_h => [0xCB, 0x6C]
  | .bit_5_l => [0xCB, 0x6D]
  | .bit_5_atHl => [0xCB, 0x6E]
  | .bit_5_a => [0xCB, 0x6F]
  | .bit_6_b => [0xCB, 0x70]
  | .bit_6_c => [0xCB, 0x71]
  | .bit_6_d => [0xCB, 0x72]
  | .bit_6_e => [0xCB, 0x73]
  | .bit_6_h => [0xCB, 0x74]
  | .bit_6_l => [0xCB, 0x75]
  | .bit_6_atHl => [0xCB, 0x76]
  | .bit_6_a => [0xCB, 0x77]
  | .bit_7_b => [0xCB, 0x78]
  | .bit_7_c => [0xCB, 0x79]
  | .bit_7_d => [0xCB, 0x7A]
  | .bit_7_e => [0xCB, 0x7B]
  | .bit_7_h => [0xCB, 0x7C]
  | .bit_7_l => [0xCB, 0x7D]
  | .bit_7_atHl => [0xCB, 0x7E]
  | .bit_7_a => [0xCB, 0x7F]
  | .res_0_b => [0xCB, 0x80]
  | .res_0_c => [0xCB, 0x81]
  | .res_0_d => [0xCB, 0x82]
  | .res_0_e => [0xCB, 0x83]
  | .res_0_h => [0xCB, 0x84]
  | .res_0_l => [0xCB, 0x85]
  | .res_0_atHl => [0xCB, 0x86]
  | .res_0_a => [0xCB, 0x87]
  | .res_1_b => [0xCB, 0x88]
  | .res_1_c => [0xCB, 0x89]
  | .res_1_d => [0xCB, 0x8A]
  | .res_1_e => [0xCB, 0x8B]
  | .res_1_h => [0xCB, 0x8C]
  | .res_1_l => [0xCB, 0x8D]
  | .res_1_atHl => [0xCB, 0x8E]
  | .res_1_a => [0xCB, 0x8F]
  | .res_2_b => [0xCB, 0x90]
  | .res_2_c => [0xCB, 0x91]
  | .res_2_d => [0xCB, 0x92]
  | .res_2_e => [0xCB, 0x93]
  | .res_2_h => [0xCB, 0x94]
  | .res_2_l => [0xCB, 0x95]
  | .res_2_atHl => [0xCB, 0x96]
  | .res_2_a => [0xCB, 0x97]
  | .res_3_b => [0xCB, 0x98]
  | .res_3_c => [0xCB, 0x99]
  | .res_3_d => [0xCB, 0x9A]
  | .res_3_e => [0xCB, 0x9B]
  | .res_3_h => [0xCB, 0x9C]
  | .res_3_l => [0xCB, 0x9D]
  | .res_3_atHl => [0xCB, 0x9E]
  | .res_3_a => [0xCB, 0x9F]
  | .res_4_b => [0xCB, 0xA0]
  | .res_4_c => [0xCB, 0xA1]
  | .res_4_d => [0xCB, 0xA2]
  | .res_4_e => [0xCB, 0xA3]
  | .res_4_h => [0xCB, 0xA4]
  | .res_4_l => [0xCB, 0xA5]
  | .res_4_atHl => [0xCB, 0xA6]
  | .res_4_a => [0xCB, 0xA7]
  | .res_5_b => [0xCB, 0xA8]
  | .res_5_c => [0xCB, 0xA9]
  | .res_5_d => [0xCB, 0xAA]
  | .res_5_e => [0xCB, 0xAB]
  | .res_5_h => [0xCB, 0xAC]
  | .res_5_l => [0xCB, 0xAD]
  | .res_5_atHl => [0xCB, 0xAE]
  | .res_5_a => [0xCB, 0xAF]
  | .res_6_b => [0xCB, 0xB0]
  | .res_6_c => [0xCB, 0xB1]
  | .res_6_d => [0xCB, 0xB2]
  | .res_6_e => [0xCB, 0xB3]
  | .res_6_h => [0xCB, 0xB4]
  | .res_6_l => [0xCB, 0xB5]
  | .res_6_atHl => [0xCB, 0xB6]
  | .res_6_a => [0xCB, 0xB7]
  | .res_7_b => [0xCB, 0xB8]
  | .res_7_c => [0xCB, 0xB9]
  | .res_7_d => [0xCB, 0xBA]
  | .res_7_e => [0xCB, 0xBB]
  | .res_7_h => [0xCB, 0xBC]
  | .res_7_l => [0xCB, 0xBD]
  | .res_7_atHl => [0xCB, 0xBE]
  | .res_7_a => [0xCB, 0xBF]
  | .set_0_b => [0xCB, 0xC0]
  | .set_0_c => [0xCB, 0xC1]
  | .set_0_d => [0xCB, 0xC2]
  | .set_0_e => [0xCB, 0xC3]
  | .set_0_h => [0xCB, 0xC4]
  | .set_0_l => [0xCB, 0xC5]
  | .set_0_atHl => [0xCB, 0xC6]
  | .set_0_a => [0xCB, 0xC7]
  | .set_1_b => [0xCB, 0xC8]
  | .set_1_c => [0xCB, 0xC9]
  | .set_1_d => [0xCB, 0xCA]
  | .set_1_e => [0xCB, 0xCB]
  | .set_1_h => [0xCB, 0xCC]
  | .set_1_l => [0xCB, 0xCD]
  | .set_1_atHl => [0xCB, 0xCE]
  | .set_1_a => [0xCB, 0xCF]
  | .set_2_b => [0xCB, 0xD0]
  | .set_2_c => [0xCB, 0xD1]
  | .set_2_d => [0xCB, 0xD2]
  | .set_2_e => [0xCB, 0xD3]
  | .set_2_h => [0xCB, 0xD4]
  | .set_2_l => [0xCB, 0xD5]
  | .set_2_atHl => [0xCB, 0xD6]
  | .set_2_a => [0xCB, 0xD7]
  | .set_3_b => [0xCB, 0xD8]
  | .set_3_c => [0xCB, 0xD9]
  | .set_3_d => [0xCB, 0xDA]
  | .set_3_e => [0xCB, 0xDB]
  | .set_3_h => [0xCB, 0xDC]
  | .set_3_l => [0xCB, 0xDD]
  | .set_3_atHl => [0xCB, 0xDE]
  | .set_3_a => [0xCB, 0xDF]
  | .set_4_b => [0xCB, 0xE0]
  | .set_4_c => [0xCB, 0xE1]
  | .set_4_d => [0xCB, 0xE2]
  | .set_4_e => [0xCB, 0xE3]
  | .set_4_h => [0xCB, 0xE4]
  | .set_4_l => [0xCB, 0xE5]
  | .set_4_atHl => [0xCB, 0xE6]
  | .set_4_a => [0xCB, 0xE7]
  | .set_5_b => [0xCB, 0xE8]
  | .set_5_c => [0xCB, 0xE9]
  | .set_5_d => [0xCB, 0xEA]
  | .set_5_e => [0xCB, 0xEB]
  | .set_5_h => [0xCB, 0xEC]
  | .set_5_l => [0xCB, 0xED]
  | .set_5_atHl => [0xCB, 0xEE]
  | .set_5_a => [0xCB, 0xEF]
  | .set_6_b => [0xCB, 0xF0]
  | .set_6_c => [0xCB, 0xF1]
  | .set_6_d => [0xCB, 0xF2]
  | .set_6_e => [0xCB, 0xF3]
  | .set_6_h => [0xCB, 0xF4]
  | .set_6_l => [0xCB, 0xF5]
  | .set_6_atHl => [0xCB, 0xF6]
  | .set_6_a => [0xCB, 0xF7]
  | .set_7_b => [0xCB, 0xF8]
  | .set_7_c => [0xCB, 0xF9]
  | .set_7_d => [0xCB, 0xFA]
  | .set_7_e => [0xCB, 0xFB]
  | .set_7_h => [0xCB, 0xFC]
  | .set_7_l => [0xCB, 0xFD]
  | .set_7_atHl => [0xCB, 0xFE]
  | .set_7_a => [0xCB, 0xFF]

/-! ### The opcode table's words -/

/-- The bytes of a table word of `nbits` bits. The table writes a 16-bit row with the prefix 0xCB in its high byte, so
of two bytes the one that is 0xCB stands first; every other word's first byte is its low byte (DEDUCED, log entry 6). -/
def tableBytes (nbits w : Nat) : Byte × Byte × Byte :=
  let v := w % 2 ^ nbits
  let low := BitVec.ofNat 8 v
  let high := BitVec.ofNat 8 (v / 256)
  if nbits = 16 ∧ high = 0xCB then (high, low, 0) else (low, high, BitVec.ofNat 8 (v / 65536))

/-- The instruction the decoder reads from a table word, the bytes past the word being 0. -/
def decodeTableWord (nbits w : Nat) : Option Instr :=
  let b := tableBytes nbits w
  match decode [b.1, b.2.1, b.2.2] with
  | .ok (i, _) => some i
  | .error _ => none

end Sys2Proof
end

