-- ==== Sys2Proof/Config.lean ====
section
/-! DEFINITION. What an implementation fixes: the parameters of 00_scope.md R11 that the spec leaves to the model's
caller, the I/O state after reset, and the values it leaves open altogether (opaque constants, which no proof can see
into). -/

namespace Sys2Proof

/-- `TIMER_RELOAD_DELAY` (R11, 61_timer.md R465): 4 T-cycles, or 0 for the simplified variant. -/
inductive TimerReloadDelay where
  | delayed
  | immediate
  deriving DecidableEq, Repr

/-- `LCD_ENABLE_DELAY` (R11, 62_ppu.md R491), an OPEN parameter: 0 or 4 T-cycles. -/
inductive LcdEnableDelay where
  | none
  | four
  deriving DecidableEq, Repr

/-- `DAC_CHECK` (R11, 63_apu.md R541): the DAC is on when NRx2[7:4] is not 0, or when NRx2[7:3] is not 0. -/
inductive DacCheck where
  | nibble
  | fiveBits
  deriving DecidableEq, Repr

/-- An entry `t/n` of a cycle table: t when the condition holds (and where there is none), n when it does not
(70_reset_and_hazards.md R620). -/
structure CycleEntry where
  taken    : Nat
  notTaken : Nat
  deriving DecidableEq, Repr

/-- A `CYCLE_TABLE` (R11): an entry per primary opcode and per second byte of a CB-prefixed instruction, the latter
counted with its prefix (70_reset_and_hazards.md R620). -/
structure CycleTable where
  primary : Vector CycleEntry 256
  cb      : Vector CycleEntry 256
  deriving DecidableEq, Repr

/-- `HOST_SAMPLE_RATE` (R11): `samples` stereo samples every `seconds` seconds, both positive, so any positive rational
rate. -/
structure SampleRate where
  samples : Nat
  seconds : Nat
  deriving DecidableEq, Repr

/-- The parameters of R11 that change what a step does. The state carries them and no step changes them
(DESIGN CHOICE, log entry 3: safe, since a statement about every state then holds for every legal value). -/
structure Params where
  timerReload : TimerReloadDelay
  lcdEnable   : LcdEnableDelay
  dacCheck    : DacCheck
  /-- `CYCLE_TABLE`: none is the table of R620, whose counts the meanings write; any other table replaces them where
  the CPU step returns its T-cycles. -/
  cycleTable  : Option CycleTable
  sampleRate  : SampleRate
  deriving DecidableEq, Repr

/-- `DMA_MODE` (R11, 20_memory.md R104): only the immediate copy is specified, a model refuses the other value. -/
inductive DmaMode where
  | immediate
  | blocking
  deriving DecidableEq, Repr

/-- `POST_BOOT_IO` (R11, 70_reset_and_hazards.md R612): the byte each I/O register holds after reset, its fields placed
as a write of the register places them (63_apu.md R540, 62_ppu.md R480). -/
structure PostBootIo where
  p1    : Byte
  div   : Byte
  tima  : Byte
  tma   : Byte
  tac   : Byte
  iflag : Byte
  nr10  : Byte
  nr11  : Byte
  nr12  : Byte
  nr13  : Byte
  nr14  : Byte
  nr21  : Byte
  nr22  : Byte
  nr23  : Byte
  nr24  : Byte
  nr30  : Byte
  nr31  : Byte
  nr32  : Byte
  nr33  : Byte
  nr34  : Byte
  nr41  : Byte
  nr42  : Byte
  nr43  : Byte
  nr44  : Byte
  nr50  : Byte
  nr51  : Byte
  nr52  : Byte
  lcdc  : Byte
  stat  : Byte
  scy   : Byte
  scx   : Byte
  ly    : Byte
  lyc   : Byte
  dma   : Byte
  bgp   : Byte
  obp0  : Byte
  obp1  : Byte
  wy    : Byte
  wx    : Byte
  ie    : Byte
  deriving DecidableEq, Repr

/-- What a channel hands to the mixer (63_apu.md R564): all that its signed, scaled amplitude is made of. The spec gives
no amplitude scale, so the amplitude is formed behind `APU_MIX` and nothing is rounded or dropped on the way (DESIGN
CHOICE, log entry 13: safe). -/
structure ChannelOutput where
  /-- The DAC state (63_apu.md R541). -/
  dacOn   : Bool
  enabled : Bool
  /-- The waveform before scaling: 1 for high and 0 for low on channels 1, 2 and 4, the sample 0 to 15 on channel 3. -/
  wave    : Nat
  /-- The volume: the envelope's 0 to 15 on channels 1, 2 and 4, quarters of full volume (0, 4, 2, 1) on channel 3. -/
  volume  : Nat
  deriving DecidableEq, Repr

/-- `APU_MIX` (R11, 63_apu.md R564): any function from the four channel outputs, NR50 and NR51 to a left and a right
sample. It has no body: the spec gives no mixing function and no amplitude scale (DESIGN CHOICE, log entry 13: safe, a
free value). -/
opaque Config.apuMix (ch1 ch2 ch3 ch4 : ChannelOutput) (nr50 nr51 : Byte) : Int × Int

/-- The single-pole high-pass filter of the sample output (63_apu.md R564): from the filter's one number and the mixed
sample of one side, the sample handed out and the filter's next number. It has no body: the spec gives no filter
constant (DESIGN CHOICE, log entry 13: safe, a free value). -/
opaque Config.highPass (charge mixed : Int) : Int × Int

/-- What the decrement of an APU counter that already holds 0 gives: the sweep counter (counter 0) or the timer of a
channel (1 to 4). The spec gives these counters 0 at reset and does not state it (63_apu.md R557, R561 to R563; DESIGN
CHOICE, log entry 11: safe, a free value). -/
opaque Config.belowZero (counter : Nat) : Nat

/-- The external RAM size of a RAM size code the table of 64_cartridge.md R590 does not list, before the bound of
10_state.md R42 (DESIGN CHOICE, log entry 12: safe, a free value). -/
opaque Config.unlistedRamSize (code : Byte) : Nat

/-- The upper nibble `save_sram` gives with the 4-bit cell of MBC2 at an offset, on which 64_cartridge.md R597 and R601
are silent (DESIGN CHOICE, log entry 20: safe, a free value). -/
opaque Config.savedNibble (offset : Nat) (cell : BitVec 4) : BitVec 4

end Sys2Proof
end

