-- ==== Sys2Proof/Machine/PostBoot.lean ====
section
/-! DEFINITION. The table of I/O register values after reset that the spec takes. -/

namespace Sys2Proof.Machine

/-- The table the spec takes, its stored column (70_reset_and_hazards.md R612): write-only fields are 0. -/
def postBootDmg : PostBootIo :=
  { p1 := 0x00, div := 0xAB, tima := 0x00, tma := 0x00, tac := 0x00, iflag := 0x00,
    nr10 := 0x00, nr11 := 0x80, nr12 := 0xF3, nr13 := 0x00, nr14 := 0x00,
    nr21 := 0x00, nr22 := 0x00, nr23 := 0x00, nr24 := 0x00,
    nr30 := 0x00, nr31 := 0x00, nr32 := 0x00, nr33 := 0x00, nr34 := 0x00,
    nr41 := 0x00, nr42 := 0x00, nr43 := 0x00, nr44 := 0x00,
    nr50 := 0x77, nr51 := 0xF3, nr52 := 0x81,
    lcdc := 0x91, stat := 0x00, scy := 0x00, scx := 0x00, ly := 0x00, lyc := 0x00, dma := 0xFF,
    bgp := 0xFC, obp0 := 0xFF, obp1 := 0xFF, wy := 0x00, wx := 0x00, ie := 0x00 }

end Sys2Proof.Machine
end

