-- ==== Sys2Proof/Machine/State.lean ====
section
/-! DEFINITION. The machine's state as plain data: every piece of state spec/ names (10_state.md R30 to R52,
61_timer.md R460, 62_ppu.md R480 and R481, 63_apu.md R540 and R541, 64_cartridge.md R591), the outcomes a step can
have besides a next state, and the state after reset (70_reset_and_hazards.md R610 to R615). -/

namespace Sys2Proof.Machine

/-! ### Why a step can stop -/

/-- The core raises no synchronous exception, fault or trap (60_exceptions.md R410): out-of-range reads give 0xFF,
ignored writes have no effect, illegal opcodes run as NOP. So there is no fault to name, and no step faults (safe). -/
inductive Fault where
  deriving DecidableEq, Repr

/-- Refusals. Every instruction of the opcode table has its meaning, so no arm of `exec` raises one. -/
inductive Refusal where
  /-- Raised by an arm of `exec` whose instruction has no meaning yet; safe. No arm is in that case. -/
  | notModelled (mnemonic : String)
  deriving DecidableEq, Repr

/-! ### The CPU -/

/-- The seven 8-bit operand registers (10_state.md R30). -/
structure Regs where
  a : Byte
  b : Byte
  c : Byte
  d : Byte
  e : Byte
  h : Byte
  l : Byte
  deriving DecidableEq, Repr

/-- F as its four flags; its low nibble is always 0 (10_state.md R31, R35; log entry 16: safe, the spec allows it). -/
structure Flags where
  z : Bool
  n : Bool
  h : Bool
  c : Bool
  deriving DecidableEq, Repr

/-- The five interrupt sources in bit order (60_exceptions.md R414). -/
inductive Interrupt where
  | vblank
  | stat
  | timer
  | serial
  | joypad
  deriving DecidableEq, Repr

/-! ### Memory -/

/-- A byte array as its listed cells, addresses strictly rising, none equal to what an unlisted address reads as. -/
structure Memory where
  cells : List Host.Cell
  deriving DecidableEq, Repr

/-! ### Timer (61_timer.md R460) -/

structure Timer where
  /-- `internal_counter`; DIV is its high byte. -/
  counter         : Word
  tima            : Byte
  tma             : Byte
  tac             : BitVec 3
  prevSignal      : Bool
  reloadCountdown : Nat
  deriving DecidableEq, Repr

/-! ### PPU (62_ppu.md R480, R481) -/

/-- `ppu_mode`: 0 H-blank, 1 V-blank, 2 OAM search, 3 pixel transfer. -/
inductive PpuMode where
  | hblank
  | vblank
  | oamSearch
  | transfer
  deriving DecidableEq, Repr

/-- A two-bit colour id or shade index (R481, R496). -/
abbrev Shade := BitVec 2

structure Ppu where
  lcdc : Byte
  /-- STAT bits 6..3, the four interrupt enables; bits 2..0 are `coincidence` and `mode` (R483). -/
  statEnables : BitVec 4
  scy  : Byte
  scx  : Byte
  ly   : Byte
  lyc  : Byte
  dma  : Byte
  bgp  : Byte
  obp0 : Byte
  obp1 : Byte
  wy   : Byte
  wx   : Byte
  cycleCount     : Nat
  mode           : PpuMode
  coincidence    : Bool
  windowLine     : Byte
  windowDrawn    : Bool
  scxShadow      : Byte
  scyShadow      : Byte
  frozenPairBase : Nat
  enableDelay    : Nat
  lcdOffCycles   : Nat
  /-- 144 lines of 160 entries. -/
  framebuffer    : List (List Shade)
  /-- 160 entries. -/
  bgId           : List Shade
  presentedFrame : List (List Shade)
  deriving DecidableEq, Repr

/-! ### APU (63_apu.md R540, R541) -/

/-- An envelope's running state; its register is the channel's NRx2. -/
structure Envelope where
  volume  : BitVec 4
  counter : BitVec 3
  deriving DecidableEq, Repr

/-- A pulse channel: the stored bits of NRx1 to NRx4 and the decoded state. -/
structure Pulse where
  duty         : BitVec 2
  lengthLoad   : BitVec 6
  nrx2         : Byte
  frequency    : BitVec 11
  lengthEnable : Bool
  enabled      : Bool
  dutyPos      : BitVec 3
  timer        : Nat
  length       : Nat
  envelope     : Envelope
  deriving DecidableEq, Repr

/-- Channel 1's sweep: NR10 (7 stored bits), the counter, the shadow frequency and `sweep_enabled`. -/
structure Sweep where
  nr10    : BitVec 7
  counter : Nat
  shadow  : BitVec 11
  enabled : Bool
  deriving DecidableEq, Repr

structure Wave where
  dacOn        : Bool
  lengthLoad   : Byte
  volumeCode   : BitVec 2
  frequency    : BitVec 11
  lengthEnable : Bool
  enabled      : Bool
  timer        : Nat
  position     : BitVec 5
  sample       : BitVec 4
  length       : Nat
  deriving DecidableEq, Repr

structure Noise where
  lengthLoad   : BitVec 6
  nr42         : Byte
  nr43         : Byte
  lengthEnable : Bool
  enabled      : Bool
  timer        : Nat
  length       : Nat
  envelope     : Envelope
  lfsr         : BitVec 15
  deriving DecidableEq, Repr

structure Apu where
  power     : Bool
  fsCounter : Nat
  fsStep    : Nat
  /-- Stored bits 6..4 and 2..0. -/
  nr50      : Byte
  nr51      : Byte
  sweep     : Sweep
  ch1       : Pulse
  ch2       : Pulse
  ch3       : Wave
  ch4       : Noise
  deriving DecidableEq, Repr

/-- The sample output (63_apu.md R564): how far the next sample is, in units of which `samplePeriod` make one
sample, the high-pass filter's number for the left and the right side, and the samples the host has not drained, oldest
first. The form is the model's own (log entry 13). -/
structure Audio where
  phase   : Nat
  charge  : Int × Int
  samples : List (Int × Int)
  deriving DecidableEq, Repr

/-! ### Cartridge (64_cartridge.md R590, R591) -/

/-- The controller's type with the registers that type has (R591; log entry 14). -/
inductive Mbc where
  | none
  | mbc1 (ramEnable : Bool) (bankLo : BitVec 5) (bankHi : BitVec 2) (ramMode : Bool)
  | mbc2 (ramEnable : Bool) (romBank : BitVec 4)
  | mbc3 (ramEnable : Bool) (romBank : BitVec 7) (ramBank : Byte)
  | mbc5 (ramEnable : Bool) (romBank : BitVec 9) (ramBank : BitVec 4)
  deriving DecidableEq, Repr

structure Cartridge where
  /-- The image, keyed by offset; offsets at or beyond `romSize` are outside it. -/
  rom     : Memory
  romSize : Nat
  mbc     : Mbc
  /-- External RAM, keyed by offset; offsets at or beyond `ramSize` are outside it. -/
  xram    : Memory
  ramSize : Nat
  battery : Bool
  deriving DecidableEq, Repr
/-! ### The whole state -/

structure State where
  regs           : Regs
  flags          : Flags
  sp             : Word
  pc             : Word
  ime            : Bool
  eiDelayPending : Bool
  halted         : Bool
  haltBugActive  : Bool
  /-- `step_count` (10_state.md R47), an unbounded natural (log entry 17). -/
  stepCount      : Nat
  /-- The model's own field: the T-cycles the last CPU step returned (60_exceptions.md R400, R404; log entry 8). -/
  tcycles        : Nat
  ie             : Byte
  /-- IF[4:0] (60_exceptions.md R412). -/
  iflag          : BitVec 5
  joypSelect     : BitVec 2
  /-- The host's button bitmap, active low (60_exceptions.md R440). -/
  buttons        : Byte
  /-- The model's own field: the host's input events not yet applied, oldest first (R401, R443; log entry 9). -/
  inputQueue     : List Byte
  timer          : Timer
  ppu            : Ppu
  apu            : Apu
  audio          : Audio
  cart           : Cartridge
  /-- VRAM, WRAM, OAM, HRAM and wave RAM, keyed by bus address (10_state.md R42). -/
  ram            : Memory
  params         : Params
  deriving DecidableEq, Repr

/-! ### Reset -/

/-- No cartridge: an empty ROM, type None, no RAM (20_memory.md R81, 70_reset_and_hazards.md R615). -/
def Cartridge.empty : Cartridge :=
  { rom := ⟨[]⟩, romSize := 0, mbc := .none, xram := ⟨[]⟩, ramSize := 0, battery := false }

/-! The registers after reset are those of a `POST_BOOT_IO` table (R612), the internal state is R614's whatever the table
is (log entry 3). -/

/-- The timer after reset (R612, R614); the low byte of `internal_counter` is R614's. -/
def Timer.reset (io : PostBootIo) : Timer :=
  { counter := io.div ++ 0xCC#8, tima := io.tima, tma := io.tma, tac := io.tac.setWidth 3, prevSignal := false,
    reloadCountdown := 0 }

/-- A frame of shade 0: what the framebuffer and the presented frame hold at reset, where the spec gives draws
(DESIGN CHOICE, log entry 2: unsafe for a claim about the first frame's pixels). -/
def blankFrame : List (List Shade) := List.replicate 144 (List.replicate 160 0)

/-- The PPU after reset: mode 2 at T-cycle 0 of its line, coincidence set (R612, R614). -/
def Ppu.reset (io : PostBootIo) : Ppu :=
  { lcdc := io.lcdc, statEnables := io.stat.extractLsb' 3 4, scy := io.scy, scx := io.scx, ly := io.ly, lyc := io.lyc,
    dma := io.dma, bgp := io.bgp, obp0 := io.obp0, obp1 := io.obp1, wy := io.wy, wx := io.wx,
    cycleCount := 0, mode := .oamSearch, coincidence := true, windowLine := 0, windowDrawn := false,
    scxShadow := 0, scyShadow := 0, frozenPairBase := 0, enableDelay := 0, lcdOffCycles := 0,
    framebuffer := blankFrame, bgId := List.replicate 160 0, presentedFrame := blankFrame }

/-- A pulse channel after reset, from NRx1 to NRx4 and its bit of NR52 (R612, R614). -/
def Pulse.reset (nrx1 nrx2 nrx3 nrx4 : Byte) (enabled : Bool) : Pulse :=
  { duty := nrx1.extractLsb' 6 2, lengthLoad := nrx1.setWidth 6, nrx2 := nrx2, frequency := nrx4.setWidth 3 ++ nrx3,
    lengthEnable := nrx4.getLsbD 6, enabled := enabled, dutyPos := 0, timer := 0, length := 0, envelope := ⟨0, 0⟩ }

/-- The APU after reset (R612, R614). -/
def Apu.reset (io : PostBootIo) : Apu :=
  { power := io.nr52.getLsbD 7, fsCounter := 0, fsStep := 0, nr50 := io.nr50 &&& 0x77, nr51 := io.nr51,
    sweep := { nr10 := io.nr10.setWidth 7, counter := 0, shadow := 0, enabled := false },
    ch1 := Pulse.reset io.nr11 io.nr12 io.nr13 io.nr14 (io.nr52.getLsbD 0),
    ch2 := Pulse.reset io.nr21 io.nr22 io.nr23 io.nr24 (io.nr52.getLsbD 1),
    ch3 := { dacOn := io.nr30.getLsbD 7, lengthLoad := io.nr31, volumeCode := io.nr32.extractLsb' 5 2,
             frequency := io.nr34.setWidth 3 ++ io.nr33, lengthEnable := io.nr34.getLsbD 6,
             enabled := io.nr52.getLsbD 2, timer := 0, position := 0, sample := 0, length := 0 },
    ch4 := { lengthLoad := io.nr41.setWidth 6, nr42 := io.nr42, nr43 := io.nr43, lengthEnable := io.nr44.getLsbD 6,
             enabled := io.nr52.getLsbD 3, timer := 0, length := 0, envelope := ⟨0, 0⟩, lfsr := 0x7FFF } }

/-- The sample output after reset: no sample yet and the filter at rest, of which the spec says nothing (DESIGN CHOICE,
log entry 13: unsafe for a claim about when the first sample falls or what the filter makes of it). -/
def Audio.reset : Audio := { phase := 0, charge := (0, 0), samples := [] }

/-- The values `State.reset` takes: the delayed timer reload, the nibble DAC check and the cycle table of R620, as R11
says; for the OPEN `LCD_ENABLE_DELAY` the value 0 and for `HOST_SAMPLE_RATE`, an argument, the 44 100 Hz R11 calls typical
(DESIGN CHOICE, log entry 3). -/
def Params.reset : Params :=
  { timerReload := .delayed, lcdEnable := .none, dacCheck := .nibble, cycleTable := none,
    sampleRate := { samples := 44100, seconds := 1 } }

/-- The state after `reset()` with the given parameters, I/O table, cartridge and RAM draws (70_reset_and_hazards.md
R610): SP in HRAM, interrupts masked, the LCD and the APU on (R616). -/
def State.resetWith (params : Params) (io : PostBootIo) (cart : Cartridge) (draws : Memory) : State :=
  { regs := { a := 0x01, b := 0x00, c := 0x13, d := 0x00, e := 0xD8, h := 0x01, l := 0x4D },
    flags := { z := true, n := false, h := true, c := true },
    sp := 0xFFFE, pc := 0x0100, ime := false, eiDelayPending := false, halted := false, haltBugActive := false,
    stepCount := 0, tcycles := 0, ie := io.ie, iflag := io.iflag.setWidth 5, joypSelect := io.p1.extractLsb' 4 2,
    buttons := 0xFF, inputQueue := [], timer := Timer.reset io, ppu := Ppu.reset io, apu := Apu.reset io,
    audio := Audio.reset, cart := cart, ram := draws, params := params }

/-- The machine right after `reset()` with no cartridge (R615), the I/O table of R612 and every RAM draw taken as the byte
an unlisted address reads as (DESIGN CHOICE, log entry 1: unsafe for a claim about a byte nothing has written). -/
def State.reset : State := State.resetWith Params.reset postBootDmg Cartridge.empty ⟨[]⟩

end Sys2Proof.Machine
end

