-- ==== Sys2Proof/Machine/Memory.lean ====
section
/-! DEFINITION. A byte array kept in canonical form, and requesting an interrupt: what the devices and the bus share. -/

namespace Sys2Proof.Machine

/-- What an address that no cell lists reads as: a byte nothing has written. The spec makes it a free draw
(10_state.md R52, 70_reset_and_hazards.md R613); the model takes 0x00 (DESIGN CHOICE, log entry 1: unsafe). -/
def unlistedByte : Byte := 0x00

/-- The byte the first cell of `a` holds. -/
def readCells (a : Nat) : List Host.Cell → Byte
  | [] => unlistedByte
  | (b, w) :: rest => if a = b then w else readCells a rest

/-- Puts `v` at `a`, before the first cell of a higher address. -/
def insertCell (a : Nat) (v : Byte) : List Host.Cell → List Host.Cell
  | [] => [(a, v)]
  | (b, w) :: rest =>
    if a < b then (a, v) :: (b, w) :: rest
    else if a = b then (a, v) :: rest
    else (b, w) :: insertCell a v rest

/-- Drops every cell of `a`. -/
def eraseCell (a : Nat) : List Host.Cell → List Host.Cell
  | [] => []
  | (b, w) :: rest => if a = b then eraseCell a rest else (b, w) :: eraseCell a rest

/-- The byte at `a`. -/
def Memory.read (m : Memory) (a : Nat) : Byte := readCells a m.cells

/-- Stores `v` at `a`, keeping the canonical form. -/
def Memory.write (m : Memory) (a : Nat) (v : Byte) : Memory :=
  if v = unlistedByte then ⟨eraseCell a m.cells⟩ else ⟨insertCell a v m.cells⟩

/-- Stores the bytes of a list at `a`, `a + 1`, … -/
def Memory.writeBytes (m : Memory) (a : Nat) : List Byte → Memory
  | [] => m
  | b :: bs => Memory.writeBytes (m.write a b) (a + 1) bs

/-- Addresses strictly above `lo` and rising, no cell equal to what an unlisted address reads as. -/
def cellsAbove (lo : Nat) : List Host.Cell → Bool
  | [] => true
  | (a, v) :: rest => decide (lo < a) && decide (v ≠ unlistedByte) && cellsAbove a rest

/-- The canonical form of a cell list. -/
def cellsWf : List Host.Cell → Bool
  | [] => true
  | (a, v) :: rest => decide (v ≠ unlistedByte) && cellsAbove a rest

/-- The canonical form: equal arrays are equal data. -/
def Memory.wf (m : Memory) : Bool := cellsWf m.cells

/-- The request bit of a source in IF and IE (60_exceptions.md R414). -/
def Interrupt.mask : Interrupt → BitVec 5
  | .vblank => 0b00001
  | .stat   => 0b00010
  | .timer  => 0b00100
  | .serial => 0b01000
  | .joypad => 0b10000

/-- `RequestInterrupt(i)` on IF (R413): sets the bit and nothing else. -/
def request (i : Interrupt) (iflag : BitVec 5) : BitVec 5 := iflag ||| i.mask

/-- A request made only when its condition holds. -/
def requestIf (c : Bool) (i : Interrupt) (iflag : BitVec 5) : BitVec 5 := if c then request i iflag else iflag

end Sys2Proof.Machine
end

