-- ==== Sys2Proof/Machine/Apu.lean ====
section
/-! DEFINITION. The APU: registers, power, frame sequencer, length, sweep, envelope, channel timers, outputs and
the sample stream (63_apu.md R540 to R565). Wave RAM stands in the bus's array at 0xFF30 to 0xFF3F. -/

namespace Sys2Proof.Machine

/-! ### DACs -/

/-- Whether NRx2 has the channel's DAC on, by `DAC_CHECK` (R541). -/
def dacOn (p : Params) (nrx2 : Byte) : Bool :=
  match p.dacCheck with
  | .nibble => decide (nrx2.extractLsb' 4 4 ≠ 0)
  | .fiveBits => decide (nrx2.extractLsb' 3 5 ≠ 0)

/-! ### Length (R552, R553) -/

/-- A length tick's new counter. -/
def lengthTick (lengthEnable : Bool) (length : Nat) : Nat := if lengthEnable then length - 1 else length

/-- Whether a length tick reaches 0 and so disables the channel. -/
def lengthExpires (lengthEnable : Bool) (length : Nat) : Bool := lengthEnable && decide (length = 1)

def Pulse.tickLength (c : Pulse) : Pulse :=
  { c with length := lengthTick c.lengthEnable c.length,
           enabled := c.enabled && !lengthExpires c.lengthEnable c.length }

def Wave.tickLength (c : Wave) : Wave :=
  { c with length := lengthTick c.lengthEnable c.length,
           enabled := c.enabled && !lengthExpires c.lengthEnable c.length }

def Noise.tickLength (c : Noise) : Noise :=
  { c with length := lengthTick c.lengthEnable c.length,
           enabled := c.enabled && !lengthExpires c.lengthEnable c.length }

/-- A length tick, all four channels (R551). -/
def Apu.tickLengths (a : Apu) : Apu :=
  { a with ch1 := a.ch1.tickLength, ch2 := a.ch2.tickLength, ch3 := a.ch3.tickLength, ch4 := a.ch4.tickLength }

/-! ### Envelope (R559) -/

/-- An envelope tick under the register NRx2. -/
def Envelope.tick (nrx2 : Byte) (e : Envelope) : Envelope :=
  let period : BitVec 3 := nrx2.setWidth 3
  if period = 0 then e
  else
    let counter := if e.counter = 0 then e.counter else e.counter - 1
    if counter = 0 then
      { counter := period,
        volume := if nrx2.getLsbD 3 then (if e.volume = 15 then 15 else e.volume + 1)
                  else (if e.volume = 0 then 0 else e.volume - 1) }
    else { e with counter := counter }

/-- The envelope a trigger sets: the initial volume and the period of NRx2 (R554). -/
def Envelope.start (nrx2 : Byte) : Envelope := { volume := nrx2.extractLsb' 4 4, counter := nrx2.setWidth 3 }

/-- An envelope tick of channels 1, 2 and 4 (R551). -/
def Apu.tickEnvelopes (a : Apu) : Apu :=
  { a with ch1 := { a.ch1 with envelope := a.ch1.envelope.tick a.ch1.nrx2 },
           ch2 := { a.ch2 with envelope := a.ch2.envelope.tick a.ch2.nrx2 },
           ch4 := { a.ch4 with envelope := a.ch4.envelope.tick a.ch4.nr42 } }

/-! ### Sweep (R557, R558) -/

/-- NR10[6:4]. -/
def Sweep.period (s : Sweep) : Nat := (s.nr10.extractLsb' 4 3).toNat
/-- NR10[2:0]. -/
def Sweep.shift (s : Sweep) : Nat := (s.nr10.setWidth 3).toNat
/-- The value the sweep counter is loaded with: the period, 0 treated as 8. -/
def Sweep.reloadValue (s : Sweep) : Nat := if s.period = 0 then 8 else s.period

/-- `SweepCalc()` (R558), as an integer. -/
def Sweep.calc (s : Sweep) : Nat :=
  if s.nr10.getLsbD 3 then s.shadow.toNat - s.shadow.toNat / 2 ^ s.shift
  else s.shadow.toNat + s.shadow.toNat / 2 ^ s.shift

/-- Overflow of a sweep calculation (R558). -/
def Sweep.overflows (s : Sweep) : Bool := decide (2047 < s.calc)

/-- The calculation of a sweep tick whose counter has reached 0 and was reloaded (R557). The frequency written back takes
the place of the one NR13 and NR14 hold, both halves (DEDUCED, log entry 19: unsafe). -/
def Apu.applySweep (a : Apu) : Apu :=
  if a.sweep.overflows then { a with ch1 := { a.ch1 with enabled := false } }
  else if a.sweep.shift = 0 then a
  else
    let f := BitVec.ofNat 11 a.sweep.calc
    let s := { a.sweep with shadow := f }
    { a with sweep := s, ch1 := { a.ch1 with frequency := f, enabled := a.ch1.enabled && !s.overflows } }

/-- The decrement of a counter; of one that holds 0, the free value of log entry 11. -/
def decremented (counter n : Nat) : Nat := if n = 0 then Config.belowZero counter else n - 1

/-- A sweep tick (R557). -/
def Apu.tickSweep (a : Apu) : Apu :=
  if decremented 0 a.sweep.counter = 0 then
    let b := { a with sweep := { a.sweep with counter := a.sweep.reloadValue } }
    if a.sweep.enabled && decide (a.sweep.period ≠ 0) then b.applySweep else b
  else { a with sweep := { a.sweep with counter := decremented 0 a.sweep.counter } }

/-! ### Channel timers (R561 to R563) -/

/-- The period of channels 1 and 2 (R561). -/
def Pulse.period (c : Pulse) : Nat := (2048 - c.frequency.toNat) * 4

/-- The period of channel 3 (R562). -/
def Wave.period (c : Wave) : Nat := (2048 - c.frequency.toNat) * 2

/-- The divisor table of R563. -/
def noiseDivisor (code : Nat) : Nat := if code = 0 then 8 else 16 * code

/-- The period of channel 4 (R563): the divisor of NR43[2:0], shifted left by NR43[7:4] + 1. -/
def Noise.period (c : Noise) : Nat :=
  noiseDivisor (c.nr43.setWidth 3).toNat * 2 ^ ((c.nr43.extractLsb' 4 4).toNat + 1)

/-- One T-cycle of the pulse channel of number `k`: at 0 the timer reloads and the duty position moves (R561). -/
def Pulse.tickTimer (k : Nat) (c : Pulse) : Pulse :=
  if c.enabled then
    let n := decremented k c.timer
    { c with timer := if n = 0 then c.period else n, dutyPos := if n = 0 then c.dutyPos + 1 else c.dutyPos }
  else c

/-- Sample `position` of wave RAM, the high nibble for even positions (R562). -/
def waveSample (m : Memory) (position : BitVec 5) : BitVec 4 :=
  let b := m.read (0xFF30 + position.toNat / 2)
  if position.getLsbD 0 then b.setWidth 4 else b.extractLsb' 4 4

/-- One T-cycle of the wave channel (R562). -/
def Wave.tickTimer (m : Memory) (c : Wave) : Wave :=
  if c.enabled then
    let n := decremented 3 c.timer
    { c with timer := if n = 0 then c.period else n,
             position := if n = 0 then c.position + 1 else c.position,
             sample := if n = 0 then waveSample m (c.position + 1) else c.sample }
  else c

/-- One step of the noise channel's shift register (R563). -/
def lfsrStep (narrow : Bool) (x : BitVec 15) : BitVec 15 :=
  let b := BitVec.ofBool (x.getLsbD 0 ^^ x.getLsbD 1)
  let y : BitVec 15 := b ++ x.extractLsb' 1 14
  if narrow then y.extractLsb' 7 8 ++ b ++ y.extractLsb' 0 6 else y

/-- One T-cycle of the noise channel (R563). -/
def Noise.tickTimer (c : Noise) : Noise :=
  if c.enabled then
    let n := decremented 4 c.timer
    { c with timer := if n = 0 then c.period else n,
             lfsr := if n = 0 then lfsrStep (c.nr43.getLsbD 3) c.lfsr else c.lfsr }
  else c

/-- Every enabled channel's timer, one T-cycle (R550). -/
def Apu.tickTimers (m : Memory) (a : Apu) : Apu :=
  { a with ch1 := a.ch1.tickTimer 1, ch2 := a.ch2.tickTimer 2, ch3 := a.ch3.tickTimer m, ch4 := a.ch4.tickTimer }

/-! ### Frame sequencer (R550, R551) -/

/-- `RunStep(k)` (R551): length before sweep. -/
def Apu.runStep (k : Nat) (a : Apu) : Apu :=
  match k with
  | 0 => a.tickLengths
  | 2 => a.tickLengths.tickSweep
  | 4 => a.tickLengths
  | 6 => a.tickLengths.tickSweep
  | 7 => a.tickEnvelopes
  | _ => a

/-- The sequencer's part of a tick (R550). -/
def Apu.tickSequencer (a : Apu) : Apu :=
  if a.fsCounter + 1 = 8192 then
    { Apu.runStep a.fsStep { a with fsCounter := 0 } with fsStep := (a.fsStep + 1) % 8 }
  else { a with fsCounter := a.fsCounter + 1 }

/-- `APU.tick()` (R550). -/
def Apu.tick (m : Memory) (a : Apu) : Apu := if a.power then a.tickSequencer.tickTimers m else a

/-- `APU.advance(n)` (R550). -/
def Apu.advance (m : Memory) : Nat → Apu → Apu
  | 0, a => a
  | n + 1, a => Apu.advance m n (a.tick m)

/-! ### Trigger and NRx4 (R554, R556) -/

/-- Whether the extra length decrement happens: length enable newly set while the next step is no length step. -/
def Apu.extraDecrement (a : Apu) (was now : Bool) (length : Nat) : Bool :=
  !was && now && decide (a.fsStep % 2 = 1) && decide (0 < length)

/-- `Trigger` of a pulse channel, but for channel 1's sweep (R554). -/
def Pulse.trigger (p : Params) (c : Pulse) : Pulse :=
  { c with
    enabled := c.enabled || dacOn p c.nrx2
    length := if c.length = 0 then 64 - c.lengthLoad.toNat else c.length
    envelope := Envelope.start c.nrx2
    timer := c.period
    dutyPos := 0 }

/-- The write of NRx4 to a pulse channel (R556), given whether the extra decrement happens. The frequency keeps its low
eight bits as the program or the sweep last wrote them (DEDUCED, log entry 19: unsafe). -/
def Pulse.writeControl (p : Params) (extra : Bool) (c : Pulse) (v : Byte) : Pulse :=
  let stored := { c with lengthEnable := v.getLsbD 6,
                         frequency := v.setWidth 3 ++ c.frequency.setWidth 8 }
  let counted :=
    if extra then { stored with length := c.length - 1,
                                enabled := c.enabled && !(decide (c.length = 1) && !v.getLsbD 7) }
    else stored
  if v.getLsbD 7 then counted.trigger p else counted

/-- The sweep part of a trigger of channel 1 (R554). -/
def Sweep.trigger (s : Sweep) (frequency : BitVec 11) : Sweep :=
  { s with shadow := frequency, counter := s.reloadValue,
           enabled := decide (s.period ≠ 0) || decide (s.shift ≠ 0) }

/-- The write of NR14 (R554, R556). -/
def Apu.writeNr14 (p : Params) (a : Apu) (v : Byte) : Apu :=
  let c := a.ch1.writeControl p (a.extraDecrement a.ch1.lengthEnable (v.getLsbD 6) a.ch1.length) v
  if v.getLsbD 7 then
    let s := a.sweep.trigger c.frequency
    { a with sweep := s, ch1 := { c with enabled := c.enabled && !(decide (s.shift ≠ 0) && s.overflows) } }
  else { a with ch1 := c }

/-- The write of NR24 (R556). -/
def Apu.writeNr24 (p : Params) (a : Apu) (v : Byte) : Apu :=
  { a with ch2 := a.ch2.writeControl p (a.extraDecrement a.ch2.lengthEnable (v.getLsbD 6) a.ch2.length) v }

/-- `Trigger` of the wave channel (R554). -/
def Wave.trigger (c : Wave) : Wave :=
  { c with
    enabled := c.enabled || c.dacOn
    length := if c.length = 0 then 256 - c.lengthLoad.toNat else c.length
    timer := c.period
    position := 0 }

/-- The write of NR34 (R556). -/
def Apu.writeNr34 (a : Apu) (v : Byte) : Apu :=
  let c := a.ch3
  let stored := { c with lengthEnable := v.getLsbD 6,
                         frequency := v.setWidth 3 ++ c.frequency.setWidth 8 }
  let counted :=
    if a.extraDecrement c.lengthEnable (v.getLsbD 6) c.length then
      { stored with length := c.length - 1, enabled := c.enabled && !(decide (c.length = 1) && !v.getLsbD 7) }
    else stored
  { a with ch3 := if v.getLsbD 7 then counted.trigger else counted }

/-- `Trigger` of the noise channel (R554). -/
def Noise.trigger (p : Params) (c : Noise) : Noise :=
  { c with
    enabled := c.enabled || dacOn p c.nr42
    length := if c.length = 0 then 64 - c.lengthLoad.toNat else c.length
    envelope := Envelope.start c.nr42
    timer := c.period
    lfsr := 0x7FFF }

/-- The write of NR44 (R556). -/
def Apu.writeNr44 (p : Params) (a : Apu) (v : Byte) : Apu :=
  let c := a.ch4
  let stored := { c with lengthEnable := v.getLsbD 6 }
  let counted :=
    if a.extraDecrement c.lengthEnable (v.getLsbD 6) c.length then
      { stored with length := c.length - 1, enabled := c.enabled && !(decide (c.length = 1) && !v.getLsbD 7) }
    else stored
  { a with ch4 := if v.getLsbD 7 then counted.trigger p else counted }

/-! ### The other registers (R540, R543, R553, R560) -/

/-- NR11 or NR21: duty, L and the length counter. -/
def Pulse.writeLength (c : Pulse) (v : Byte) : Pulse :=
  { c with duty := v.extractLsb' 6 2, lengthLoad := v.setWidth 6, length := 64 - v.toNat % 64 }

/-- NR12 or NR22: the byte, and a DAC that is off disables the channel (R560). -/
def Pulse.writeEnvelope (p : Params) (c : Pulse) (v : Byte) : Pulse :=
  { c with nrx2 := v, enabled := c.enabled && dacOn p v }

/-- NR13 or NR23: the low eight bits of the frequency. Its high three bits stay as the program or the sweep last wrote
them (DEDUCED, log entry 19: unsafe). -/
def Pulse.writeFrequencyLow (c : Pulse) (v : Byte) : Pulse := { c with frequency := c.frequency.extractLsb' 8 3 ++ v }

/-- Power off (R544): every stored register bit becomes 0 (L and the frequencies with them: DEDUCED, log entry 10),
every channel is disabled, the sequencer is reset; length counters and wave RAM are kept. -/
def Apu.powerOff (a : Apu) : Apu :=
  { a with
    power := false, fsCounter := 0, fsStep := 0, nr50 := 0, nr51 := 0
    sweep := { a.sweep with nr10 := 0 }
    ch1 := { a.ch1 with duty := 0, lengthLoad := 0, nrx2 := 0, frequency := 0, lengthEnable := false, enabled := false }
    ch2 := { a.ch2 with duty := 0, lengthLoad := 0, nrx2 := 0, frequency := 0, lengthEnable := false, enabled := false }
    ch3 := { a.ch3 with dacOn := false, lengthLoad := 0, volumeCode := 0, frequency := 0, lengthEnable := false,
                        enabled := false }
    ch4 := { a.ch4 with lengthLoad := 0, nr42 := 0, nr43 := 0, lengthEnable := false, enabled := false } }

/-- Power on (R545): the registers stay 0, the duty positions of channels 1 and 2 become 0. -/
def Apu.powerOn (a : Apu) : Apu :=
  { a with power := true, fsCounter := 0, fsStep := 0,
           ch1 := { a.ch1 with dutyPos := 0 }, ch2 := { a.ch2 with dutyPos := 0 } }

/-- The write of NR52 (R544, R545): only a change of bit 7 has an effect. -/
def Apu.writeNr52 (a : Apu) (v : Byte) : Apu :=
  if a.power && !v.getLsbD 7 then a.powerOff
  else if !a.power && v.getLsbD 7 then a.powerOn
  else a

/-- A write to a sound register while the power is on (R543), by the low byte of its address (R540). -/
def Apu.writeOn (p : Params) (a : Apu) (reg : Nat) (v : Byte) : Apu :=
  match reg with
  | 0x10 => { a with sweep := { a.sweep with nr10 := v.setWidth 7 } }
  | 0x11 => { a with ch1 := a.ch1.writeLength v }
  | 0x12 => { a with ch1 := a.ch1.writeEnvelope p v }
  | 0x13 => { a with ch1 := a.ch1.writeFrequencyLow v }
  | 0x14 => a.writeNr14 p v
  | 0x16 => { a with ch2 := a.ch2.writeLength v }
  | 0x17 => { a with ch2 := a.ch2.writeEnvelope p v }
  | 0x18 => { a with ch2 := a.ch2.writeFrequencyLow v }
  | 0x19 => a.writeNr24 p v
  | 0x1A => { a with ch3 := { a.ch3 with dacOn := v.getLsbD 7, enabled := a.ch3.enabled && v.getLsbD 7 } }
  | 0x1B => { a with ch3 := { a.ch3 with lengthLoad := v, length := 256 - v.toNat } }
  | 0x1C => { a with ch3 := { a.ch3 with volumeCode := v.extractLsb' 5 2 } }
  | 0x1D => { a with ch3 := { a.ch3 with frequency := a.ch3.frequency.extractLsb' 8 3 ++ v } }
  | 0x1E => a.writeNr34 v
  | 0x20 => { a with ch4 := { a.ch4 with lengthLoad := v.setWidth 6, length := 64 - v.toNat % 64 } }
  | 0x21 => { a with ch4 := { a.ch4 with nr42 := v, enabled := a.ch4.enabled && dacOn p v } }
  | 0x22 => { a with ch4 := { a.ch4 with nr43 := v } }
  | 0x23 => a.writeNr44 p v
  | 0x24 => { a with nr50 := v &&& 0x77 }
  | 0x25 => { a with nr51 := v }
  | 0x26 => a.writeNr52 v
  | _ => a

/-- A write while the power is off (R543): NR52, and the length counters through NR11, NR21, NR31 and NR41. -/
def Apu.writeOff (a : Apu) (reg : Nat) (v : Byte) : Apu :=
  match reg with
  | 0x11 => { a with ch1 := { a.ch1 with length := 64 - v.toNat % 64 } }
  | 0x16 => { a with ch2 := { a.ch2 with length := 64 - v.toNat % 64 } }
  | 0x1B => { a with ch3 := { a.ch3 with length := 256 - v.toNat } }
  | 0x20 => { a with ch4 := { a.ch4 with length := 64 - v.toNat % 64 } }
  | 0x26 => a.writeNr52 v
  | _ => a

/-- A write to a sound register, by the low byte of its address (R543). -/
def Apu.write (p : Params) (a : Apu) (reg : Nat) (v : Byte) : Apu :=
  if a.power then a.writeOn p reg v else a.writeOff reg v

/-! ### Reads (R542) -/

/-- NRx1 of a pulse channel: duty, the write-only length bits read 1. -/
def Pulse.readLength (c : Pulse) : Byte := c.duty ++ 0x3F#6

/-- NRx4: the length enable bit, all others read 1. -/
def readControl (lengthEnable : Bool) : Byte := 1#1 ++ BitVec.ofBool lengthEnable ++ 0x3F#6

/-- NR52: power, three 1s, the channels' active bits. -/
def Apu.readNr52 (a : Apu) : Byte :=
  BitVec.ofBool a.power ++ 0b111#3 ++ BitVec.ofBool a.ch4.enabled ++ BitVec.ofBool a.ch3.enabled
    ++ BitVec.ofBool a.ch2.enabled ++ BitVec.ofBool a.ch1.enabled

/-- A read of a sound register, by the low byte of its address (R540, R542). -/
def Apu.read (a : Apu) (reg : Nat) : Byte :=
  match reg with
  | 0x10 => 1#1 ++ a.sweep.nr10
  | 0x11 => a.ch1.readLength
  | 0x12 => a.ch1.nrx2
  | 0x14 => readControl a.ch1.lengthEnable
  | 0x16 => a.ch2.readLength
  | 0x17 => a.ch2.nrx2
  | 0x19 => readControl a.ch2.lengthEnable
  | 0x1A => BitVec.ofBool a.ch3.dacOn ++ 0x7F#7
  | 0x1C => 1#1 ++ a.ch3.volumeCode ++ 0x1F#5
  | 0x1E => readControl a.ch3.lengthEnable
  | 0x21 => a.ch4.nr42
  | 0x22 => a.ch4.nr43
  | 0x23 => readControl a.ch4.lengthEnable
  | 0x24 => a.nr50
  | 0x25 => a.nr51
  | 0x26 => a.readNr52
  | _ => 0xFF

/-! ### Outputs (R561 to R564) -/

/-- `DUTY` (R561), positions 0..7 left to right. -/
def dutyPattern (duty : BitVec 2) : Byte :=
  match duty.toNat with
  | 0 => 0b00000001
  | 1 => 0b10000001
  | 2 => 0b10000111
  | _ => 0b01111110

/-- What a pulse channel hands to the mixer: high or low by `DUTY`, and the envelope's volume (R561, R564). The amplitude
of a low output is the mixer's to form (DESIGN CHOICE, log entry 13: safe). -/
def Pulse.output (p : Params) (c : Pulse) : ChannelOutput :=
  { dacOn := dacOn p c.nrx2, enabled := c.enabled,
    wave := ((dutyPattern c.duty).getLsbD (7 - c.dutyPos.toNat)).toNat, volume := c.envelope.volume.toNat }

/-- The volume code as quarters of full volume: mute, full, half, quarter (R562). The spec does not say how half and
quarter of a sample round; nothing is rounded here (DESIGN CHOICE, log entry 13:
safe). -/
def volumeQuarters (code : BitVec 2) : Nat :=
  match code.toNat with
  | 0 => 0
  | 1 => 4
  | 2 => 2
  | _ => 1

/-- What the wave channel hands to the mixer: its sample, and the volume in quarters (R562, R564). -/
def Wave.output (c : Wave) : ChannelOutput :=
  { dacOn := c.dacOn, enabled := c.enabled, wave := c.sample.toNat, volume := volumeQuarters c.volumeCode }

/-- What the noise channel hands to the mixer: high when bit 0 of the shift register is 0, else low, and the envelope's
volume (R563, R564; DESIGN CHOICE, log entry 13: safe). -/
def Noise.output (p : Params) (c : Noise) : ChannelOutput :=
  { dacOn := dacOn p c.nr42, enabled := c.enabled, wave := (!c.lfsr.getLsbD 0).toNat,
    volume := c.envelope.volume.toNat }

/-- The mixed sample of this T-cycle, through the open mixer and before the filter (R564). -/
def Apu.sample (p : Params) (a : Apu) : Int × Int :=
  Config.apuMix (a.ch1.output p) (a.ch2.output p) a.ch3.output (a.ch4.output p) a.nr50 a.nr51

/-! ### The sample stream (R564; 00_scope.md R1 and R11)

The orchestrator asks for a sample at the host's rate. The spec does not say at which T-cycles: the model counts
`rate.samples` units of phase every T-cycle and takes a sample each time `samplePeriod rate` of them are full (DESIGN CHOICE,
log entry 13: unsafe for a claim about when a sample falls). -/

/-- The T-cycles in `rate.seconds` seconds of the 4.194304 MHz master clock (00_scope.md R1): `rate.samples` samples fall
in them. -/
def samplePeriod (rate : SampleRate) : Nat := 4194304 * rate.seconds

/-- One sample through the filter of each side, into the stream. -/
def Audio.push (mixed : Int × Int) (u : Audio) : Audio :=
  let l := Config.highPass u.charge.1 mixed.1
  let r := Config.highPass u.charge.2 mixed.2
  { u with charge := (l.2, r.2), samples := u.samples ++ [(l.1, r.1)] }

/-- The samples a T-cycle brings: as many as the rate fits into it, mostly none. -/
def Audio.pushMany (mixed : Int × Int) : Nat → Audio → Audio
  | 0, u => u
  | n + 1, u => Audio.pushMany mixed n (u.push mixed)

/-- One T-cycle of the sample clock. -/
def Audio.tick (p : Params) (mixed : Int × Int) (u : Audio) : Audio :=
  let phase := u.phase + p.sampleRate.samples
  Audio.pushMany mixed (phase / samplePeriod p.sampleRate) { u with phase := phase % samplePeriod p.sampleRate }

/-- The sample clock over n T-cycles of `APU.advance(n)`, the channels ticking first in each. -/
def Audio.advance (p : Params) (m : Memory) : Nat → Apu → Audio → Audio
  | 0, _, u => u
  | n + 1, a, u => Audio.advance p m n (a.tick m) (u.tick p ((a.tick m).sample p))

end Sys2Proof.Machine
end

