-- ==== Sys2Proof/Machine/Cartridge.lean ====
section
/-! DEFINITION. The cartridge: bank controllers, the ROM and external-RAM windows, the header and the loader
(64_cartridge.md R590 to R601). -/

namespace Sys2Proof.Machine

/-! ### Bank controllers -/

/-- The enable test of 0x0000-0x1FFF (R596 to R599). -/
def enablesRam (v : Byte) : Bool := decide (v.setWidth 4 = 0xA#4)

/-- A bank number whose 0 is remapped to 1 (R596 to R598). -/
def remapZero {w : Nat} (b : BitVec w) : BitVec w := if b = 0 then 1 else b

/-- `MBC.write_control(addr, v)` (R592, R595 to R599), for an address of the ROM window. -/
def Mbc.writeControl (m : Mbc) (addr : Nat) (v : Byte) : Mbc :=
  match m with
  | .none => .none
  | .mbc1 en lo hi mode =>
    if addr < 0x2000 then .mbc1 (enablesRam v) lo hi mode
    else if addr < 0x4000 then .mbc1 en (remapZero (v.setWidth 5)) hi mode
    else if addr < 0x6000 then .mbc1 en lo (v.setWidth 2) mode
    else .mbc1 en lo hi (v.getLsbD 0)
  | .mbc2 en bank =>
    if addr < 0x4000 then
      if addr / 256 % 2 = 0 then .mbc2 (enablesRam v) bank else .mbc2 en (remapZero (v.setWidth 4))
    else .mbc2 en bank
  | .mbc3 en bank ram =>
    if addr < 0x2000 then .mbc3 (enablesRam v) bank ram
    else if addr < 0x4000 then .mbc3 en (remapZero (v.setWidth 7)) ram
    else if addr < 0x6000 then .mbc3 en bank v
    else .mbc3 en bank ram
  | .mbc5 en bank ram =>
    if addr < 0x2000 then .mbc5 (enablesRam v) bank ram
    else if addr < 0x3000 then .mbc5 en (bank.extractLsb' 8 1 ++ v) ram
    else if addr < 0x4000 then .mbc5 en (v.setWidth 1 ++ bank.setWidth 8) ram
    else if addr < 0x6000 then .mbc5 en bank (v.setWidth 4)
    else .mbc5 en bank ram

/-- The ROM bank at 0x4000-0x7FFF (R595 to R599); type None maps the image verbatim, which is bank 1 there. -/
def Mbc.romBank : Mbc → Nat
  | .none => 1
  | .mbc1 _ lo hi mode => if mode then lo.toNat else hi.toNat * 32 + lo.toNat
  | .mbc2 _ bank => bank.toNat
  | .mbc3 _ bank _ => bank.toNat
  | .mbc5 _ bank _ => bank.toNat

/-- `MBC.map_rom(addr)` (R593). -/
def Mbc.mapRom (m : Mbc) (addr : Nat) : Nat :=
  if addr < 0x4000 then addr else m.romBank * 0x4000 + (addr - 0x4000)

/-- `MBC.map_ram(addr)` (R594 to R599), none where the RAM is disabled or an RTC register is selected. -/
def Mbc.mapRam (m : Mbc) (addr : Nat) : Option Nat :=
  match m with
  | .none => some (addr - 0xA000)
  | .mbc1 en _ hi mode => if en then some ((if mode then hi.toNat else 0) * 0x2000 + (addr - 0xA000)) else Option.none
  | .mbc2 en _ => if en then some ((addr - 0xA000) % 0x200) else Option.none
  | .mbc3 en _ ram => if en && decide (ram.toNat ≤ 3) then some (ram.toNat * 0x2000 + (addr - 0xA000)) else Option.none
  | .mbc5 en _ ram => if en then some (ram.toNat * 0x2000 + (addr - 0xA000)) else Option.none

/-- Whether the external RAM's cells are the 4-bit cells of MBC2 (R597). -/
def Mbc.nibbleRam : Mbc → Bool
  | .mbc2 _ _ => true
  | _ => false

/-! ### The two windows -/

/-- A read of the ROM window: 0xFF beyond the image (20_memory.md R81). -/
def Cartridge.readRom (c : Cartridge) (addr : Nat) : Byte :=
  if c.mbc.mapRom addr < c.romSize then c.rom.read (c.mbc.mapRom addr) else 0xFF

/-- The external-RAM offset an address reaches, none where RAM is disabled, absent or not that large (R594). -/
def Cartridge.ramOffset (c : Cartridge) (addr : Nat) : Option Nat :=
  match c.mbc.mapRam addr with
  | none => none
  | some off => if off < c.ramSize then some off else none

/-- A read of the external-RAM window (20_memory.md R83); an MBC2 cell reads with its upper nibble 1 (R597). -/
def Cartridge.readRam (c : Cartridge) (addr : Nat) : Byte :=
  match c.ramOffset addr with
  | none => 0xFF
  | some off => if c.mbc.nibbleRam then 0xF#4 ++ (c.xram.read off).setWidth 4 else c.xram.read off

/-- What a cell of the external RAM stores of a byte: the low nibble on MBC2 (R597), else all of it. -/
def Cartridge.cell (c : Cartridge) (v : Byte) : Byte := if c.mbc.nibbleRam then v &&& 0x0F else v

/-- A write to the external-RAM window (20_memory.md R93); an MBC2 cell stores the low nibble (R597). -/
def Cartridge.writeRam (c : Cartridge) (addr : Nat) (v : Byte) : Cartridge :=
  match c.ramOffset addr with
  | none => c
  | some off => { c with xram := c.xram.write off (c.cell v) }

/-- A write to the ROM window: only the controller's registers change (20_memory.md R91). -/
def Cartridge.writeControl (c : Cartridge) (addr : Nat) (v : Byte) : Cartridge :=
  { c with mbc := c.mbc.writeControl addr v }

/-! ### Loading (R590, R600, R601; 70_reset_and_hazards.md R610) -/

/-- Why the core refuses to start. These are surfaced at load time: there is no initial state (R600). -/
inductive LoadError where
  /-- The image has no complete header or is shorter than its ROM size code says; safe. -/
  | fileTooShort
  /-- The cartridge type byte is not in the table of R590; safe. -/
  | unrecognizedType
  /-- `DMA_MODE = blocking`, which the spec does not specify and a model refuses (20_memory.md R104); safe. -/
  | blockingDma
  deriving DecidableEq, Repr

/-- What a cartridge type byte says: the controller at its reset values (R591), RAM, battery (R590). -/
structure CartType where
  mbc     : Mbc
  hasRam  : Bool
  battery : Bool
  deriving DecidableEq, Repr

/-- MBC1 at its reset values (R591): ROM bank 1, external RAM disabled (70_reset_and_hazards.md R616). -/
def Mbc.reset1 : Mbc := .mbc1 false 1 0 false
/-- MBC2 at its reset values (R591). -/
def Mbc.reset2 : Mbc := .mbc2 false 1
/-- MBC3 at its reset values (R591). -/
def Mbc.reset3 : Mbc := .mbc3 false 1 0
/-- MBC5 at its reset values (R591). -/
def Mbc.reset5 : Mbc := .mbc5 false 1 0

/-- The table of cartridge type bytes (R590). -/
def cartTypeOf (code : Byte) : Option CartType :=
  match code.toNat with
  | 0x00 => some ⟨.none, false, false⟩
  | 0x08 => some ⟨.none, true, false⟩
  | 0x09 => some ⟨.none, true, true⟩
  | 0x01 => some ⟨Mbc.reset1, false, false⟩
  | 0x02 => some ⟨Mbc.reset1, true, false⟩
  | 0x03 => some ⟨Mbc.reset1, true, true⟩
  | 0x05 => some ⟨Mbc.reset2, true, false⟩
  | 0x06 => some ⟨Mbc.reset2, true, true⟩
  | 0x0F => some ⟨Mbc.reset3, false, true⟩
  | 0x10 => some ⟨Mbc.reset3, true, true⟩
  | 0x11 => some ⟨Mbc.reset3, false, false⟩
  | 0x12 => some ⟨Mbc.reset3, true, false⟩
  | 0x13 => some ⟨Mbc.reset3, true, true⟩
  | 0x19 => some ⟨Mbc.reset5, false, false⟩
  | 0x1A => some ⟨Mbc.reset5, true, false⟩
  | 0x1B => some ⟨Mbc.reset5, true, true⟩
  | 0x1C => some ⟨Mbc.reset5, false, false⟩
  | 0x1D => some ⟨Mbc.reset5, true, false⟩
  | 0x1E => some ⟨Mbc.reset5, true, true⟩
  | _ => none

/-- `RAM_SIZE` by the RAM size code (R590); a code the table does not list gives a free value (log entry 12) within the
128 KiB of 10_state.md R42. -/
def ramSizeOf (code : Byte) : Nat :=
  match code.toNat with
  | 0 => 0
  | 1 => 0x800
  | 2 => 0x2000
  | 3 => 0x8000
  | 4 => 0x20000
  | 5 => 0x10000
  | _ => min (Config.unlistedRamSize code) 0x20000

/-- `RAM_SIZE` of a cartridge (R590): 0 without RAM, 512 cells for MBC2, else by the code. -/
def CartType.ramSize (t : CartType) (code : Byte) : Nat :=
  if t.mbc.nibbleRam then 512 else if t.hasRam then ramSizeOf code else 0

/-- The loader (R590, R600): the cartridge of an image, its external RAM holding the given draws. -/
def loadCartridge (image : List Byte) (draws : Memory) : Except LoadError Cartridge :=
  if image.length < 0x150 then .error .fileTooShort
  else if image.length < 0x8000 * 2 ^ (image.getD 0x148 0).toNat then .error .fileTooShort
  else
    match cartTypeOf (image.getD 0x147 0) with
    | none => .error .unrecognizedType
    | some t =>
      .ok { rom := Memory.writeBytes ⟨[]⟩ 0 image, romSize := image.length, mbc := t.mbc, xram := draws,
            ramSize := t.ramSize (image.getD 0x149 0), battery := t.battery }

/-- `reset()` with a cartridge image (70_reset_and_hazards.md R610): the load errors, then the state. -/
def resetWithImage (dma : DmaMode) (params : Params) (io : PostBootIo) (image : List Byte) (xramDraws draws : Memory) :
    Except LoadError State :=
  match dma with
  | .blocking => .error .blockingDma
  | .immediate =>
    match loadCartridge image xramDraws with
    | .error e => .error e
    | .ok c => .ok (State.resetWith params io c draws)

/-- `load_sram(buf)` (R601): the external RAM takes the buffer, truncated to `RAM_SIZE`; past the buffer's end it
keeps the draws it held. A 4-bit cell of MBC2 takes the low nibble of its byte, as a write does (DEDUCED, log entry 20:
unsafe). -/
def Cartridge.loadSram (c : Cartridge) (buf : List Byte) : Cartridge :=
  { c with xram := c.xram.writeBytes 0 ((buf.take c.ramSize).map c.cell) }

/-- A byte of the blob `save_sram` gives: an external RAM byte, or a 4-bit cell of MBC2 under an upper nibble the spec
does not give (a free value, log entry 20). -/
def Cartridge.savedByte (c : Cartridge) (off : Nat) : Byte :=
  let b := c.xram.read off
  if c.mbc.nibbleRam then Config.savedNibble off (b.setWidth 4) ++ b.setWidth 4 else b

/-- `save_sram()` (R601): the external RAM's bytes. -/
def Cartridge.saveSram (c : Cartridge) : List Byte := (List.range c.ramSize).map c.savedByte

end Sys2Proof.Machine
end

