-- ==== Sys2Proof/Machine/Ppu.lean ====
section
/-! DEFINITION. The PPU: LCDC and STAT, the mode state machine and the scanline renderer (62_ppu.md R480 to R508).
The renderer reads VRAM and OAM straight from the array (R495). An operation that may request an interrupt takes IF
and answers the PPU with IF. -/

namespace Sys2Proof.Machine

/-! ### Registers -/

/-- The mode number STAT bits 1..0 show (R481, R483). -/
def PpuMode.code : PpuMode → BitVec 2
  | .hblank => 0
  | .vblank => 1
  | .oamSearch => 2
  | .transfer => 3

/-- LCDC.7 (R482). -/
def Ppu.lcdOn (p : Ppu) : Bool := p.lcdc.getLsbD 7

/-- A read of STAT (R483): bit 7 is 1, then the enables, the coincidence bit and the mode, which is 0 while off. -/
def Ppu.statByte (p : Ppu) : Byte :=
  1#1 ++ p.statEnables ++ BitVec.ofBool p.coincidence ++ (if p.lcdOn then p.mode.code else 0#2)

/-- STAT.6, the LYC interrupt enable (R483). -/
def Ppu.lycEnable (p : Ppu) : Bool := p.statEnables.getLsbD 3
/-- STAT.5, the mode-2 interrupt enable (R483). -/
def Ppu.mode2Enable (p : Ppu) : Bool := p.statEnables.getLsbD 2
/-- STAT.4, the mode-1 interrupt enable (R483). -/
def Ppu.mode1Enable (p : Ppu) : Bool := p.statEnables.getLsbD 1
/-- STAT.3, the mode-0 interrupt enable (R483). -/
def Ppu.mode0Enable (p : Ppu) : Bool := p.statEnables.getLsbD 0

/-! ### The scanline renderer -/

/-- `palette(P, id)` (R496). -/
def palette (p : Byte) (id : Shade) : Shade := p.extractLsb' (2 * id.toNat) 2

/-- The pixel of row `row`, column `col` of the pattern whose bytes start at bus address `t` (R497). -/
def tilePixel (m : Memory) (t row col : Nat) : Shade :=
  BitVec.ofBool ((m.read (t + 2 * row + 1)).getLsbD (7 - col))
    ++ BitVec.ofBool ((m.read (t + 2 * row)).getLsbD (7 - col))

/-- The address of background or window tile `k` by LCDC.4 (R497). -/
def tileAddress (lcdc4 : Bool) (k : Byte) : Nat :=
  if lcdc4 then 0x8000 + 16 * k.toNat else (0x9000 + 16 * k.toInt).toNat

/-- The colour id of map pixel (u, v) of the tile map at `base` (R498). -/
def mapPixel (m : Memory) (lcdc4 : Bool) (base u v : Nat) : Shade :=
  tilePixel m (tileAddress lcdc4 (m.read (base + 32 * (v / 8) + u / 8))) (v % 8) (u % 8)

/-- The tile map a map-select bit names (R482). -/
def tileMapBase (sel : Bool) : Nat := if sel then 0x9C00 else 0x9800

/-- The background's colour id at x, 0 when LCDC.0 is 0 (R499). -/
def Ppu.bgPixel (m : Memory) (p : Ppu) (x : Nat) : Shade :=
  if p.lcdc.getLsbD 0 then
    mapPixel m (p.lcdc.getLsbD 4) (tileMapBase (p.lcdc.getLsbD 3))
      ((x + p.scxShadow.toNat) % 256) ((p.ly.toNat + p.scyShadow.toNat) % 256)
  else 0

/-- Whether the window is drawn on this line (R500, R501). -/
def Ppu.windowVisible (p : Ppu) : Bool :=
  p.lcdc.getLsbD 5 && decide (p.wy.toNat ≤ p.ly.toNat) && decide (p.wx.toNat ≤ 166)

/-- The colour id of background and window at x (R499, R501): the window from x = WX - 7 on, with
u = x - (WX - 7) and v the window line counter. -/
def Ppu.layerPixel (m : Memory) (p : Ppu) (x : Nat) : Shade :=
  if p.windowVisible && decide (p.wx.toNat ≤ x + 7) then
    mapPixel m (p.lcdc.getLsbD 4) (tileMapBase (p.lcdc.getLsbD 6)) (x + 7 - p.wx.toNat) p.windowLine.toNat
  else p.bgPixel m x

/-- An OAM entry (10_state.md R43). -/
structure Sprite where
  y    : Nat
  x    : Nat
  tile : Nat
  attr : Byte
  deriving DecidableEq, Repr

/-- OAM entry i (R505). -/
def spriteAt (m : Memory) (i : Nat) : Sprite :=
  { y := (m.read (0xFE00 + 4 * i)).toNat, x := (m.read (0xFE00 + 4 * i + 1)).toNat,
    tile := (m.read (0xFE00 + 4 * i + 2)).toNat, attr := m.read (0xFE00 + 4 * i + 3) }

/-- Sprite height by LCDC.2 (R482, R502). -/
def Ppu.spriteHeight (p : Ppu) : Nat := if p.lcdc.getLsbD 2 then 16 else 8

/-- Whether a sprite's Y range covers the line; Y = 0 never does (R502). -/
def Sprite.covers (s : Sprite) (ly h : Nat) : Bool :=
  decide (s.y ≠ 0) && decide (s.y ≤ ly + 16) && decide (ly + 16 < s.y + h)

/-- Inserts a sprite before the first one with a larger X, so that ties keep OAM order (R503). -/
def insertByX (s : Sprite) : List Sprite → List Sprite
  | [] => [s]
  | t :: rest => if s.x < t.x then s :: t :: rest else t :: insertByX s rest

/-- The first ten covering sprites in OAM order, sorted by X with the OAM index as tiebreaker (R502, R503). -/
def Ppu.lineSprites (m : Memory) (p : Ppu) : List Sprite :=
  if p.lcdc.getLsbD 1 then
    ((((List.range 40).map (spriteAt m)).filter (fun s => s.covers p.ly.toNat p.spriteHeight)).take 10).foldl
      (fun sorted s => insertByX s sorted) []
  else []

/-- The colour id of a sprite's pixel at (x, ly), X- and Y-flip and the 8 x 16 pairing included (R504). -/
def Sprite.pixel (m : Memory) (s : Sprite) (ly h x : Nat) : Shade :=
  let r := ly + 16 - s.y
  let r := if s.attr.getLsbD 6 then h - 1 - r else r
  let c := x + 8 - s.x
  let c := if s.attr.getLsbD 5 then 7 - c else c
  let k := if h = 16 then 2 * (s.tile / 2) else s.tile
  tilePixel m (0x8000 + 16 * k) r c

/-- Walks the sorted sprites for pixel x over background id `bg` (R504): the shade the first non-transparent covering
sprite draws, or none where no sprite draws or that sprite is behind the background. -/
def Ppu.spriteShade (m : Memory) (p : Ppu) (x : Nat) (bg : Shade) : List Sprite → Option Shade
  | [] => none
  | s :: rest =>
    if decide (s.x ≤ x + 8) && decide (x < s.x) then
      let id := s.pixel m p.ly.toNat p.spriteHeight x
      if id = 0 then Ppu.spriteShade m p x bg rest
      else if s.attr.getLsbD 7 && decide (bg ≠ 0) then none
      else some (palette (if s.attr.getLsbD 4 then p.obp1 else p.obp0) id)
    else Ppu.spriteShade m p x bg rest

/-- The shade of pixel x of the line, over the background ids already recorded (R504). -/
def Ppu.finalShade (m : Memory) (p : Ppu) (sprites : List Sprite) (x : Nat) (bg : Shade) : Shade :=
  (p.spriteShade m x bg sprites).getD (palette p.bgp bg)

/-- The shades of a line from its background ids, leftmost pixel x first. -/
def Ppu.shadeLine (m : Memory) (p : Ppu) (sprites : List Sprite) : Nat → List Shade → List Shade
  | _, [] => []
  | x, bg :: rest => p.finalShade m sprites x bg :: Ppu.shadeLine m p sprites (x + 1) rest

/-- `RenderLine(LY)` (R499, R501 to R506). -/
def Ppu.renderLine (m : Memory) (p : Ppu) : Ppu :=
  let ids := (List.range 160).map (p.layerPixel m)
  { p with
    windowDrawn := p.windowDrawn || p.windowVisible
    bgId := ids
    framebuffer := p.framebuffer.set p.ly.toNat (p.shadeLine m (p.lineSprites m) 0 ids) }

/-! ### The mode state machine -/

/-- `UpdateCoincidence()` (R487). -/
def Ppu.updateCoincidence (p : Ppu) (iflag : BitVec 5) : Ppu × BitVec 5 :=
  let now := decide (p.ly = p.lyc)
  ({ p with coincidence := now }, requestIf (p.lycEnable && !p.coincidence && now) .stat iflag)

/-- Entry to mode 2 (R486). -/
def Ppu.enterOamSearch (p : Ppu) (iflag : BitVec 5) : Ppu × BitVec 5 :=
  ({ p with mode := .oamSearch }, requestIf p.mode2Enable .stat iflag)

/-- Entry to mode 3 (R495): the scroll shadows, the frozen pair base 4 * floor(79 / 2), and the line's render. -/
def Ppu.enterTransfer (m : Memory) (p : Ppu) : Ppu :=
  Ppu.renderLine m { p with mode := .transfer, scxShadow := p.scx, scyShadow := p.scy, frozenPairBase := 4 * (79 / 2) }

/-- Entry to mode 0 (R486). -/
def Ppu.enterHblank (p : Ppu) (iflag : BitVec 5) : Ppu × BitVec 5 :=
  ({ p with mode := .hblank }, requestIf p.mode0Enable .stat iflag)

/-- Entry to mode 1 (R486, R488): VBlank, STAT if enabled, and the frame is presented. -/
def Ppu.enterVblank (p : Ppu) (iflag : BitVec 5) : Ppu × BitVec 5 :=
  ({ p with mode := .vblank, presentedFrame := p.framebuffer }, requestIf p.mode1Enable .stat (request .vblank iflag))

/-- `EnterMode(m)` (R486). -/
def Ppu.enterMode (mem : Memory) (mode : PpuMode) (p : Ppu) (iflag : BitVec 5) : Ppu × BitVec 5 :=
  match mode with
  | .oamSearch => p.enterOamSearch iflag
  | .transfer => (p.enterTransfer mem, iflag)
  | .hblank => p.enterHblank iflag
  | .vblank => p.enterVblank iflag

/-- `ModeFor(LY, cycle_count)` (R485). -/
def modeFor (ly cycle : Nat) : PpuMode :=
  if ly < 144 then
    if cycle < 80 then .oamSearch
    else if cycle < 252 then .transfer
    else .hblank
  else .vblank

/-- The end of a scanline (R484): the window line counter, LY, and the coincidence bit. -/
def Ppu.endLine (p : Ppu) (iflag : BitVec 5) : Ppu × BitVec 5 :=
  let ly := BitVec.ofNat 8 ((p.ly.toNat + 1) % 154)
  let wl := if p.windowDrawn then p.windowLine + 1 else p.windowLine
  Ppu.updateCoincidence
    { p with cycleCount := 0, windowDrawn := false, ly := ly, windowLine := if ly = 0 then 0 else wl } iflag

/-- The mode change of a tick, if the mode for this cycle is a new one (R484, R485). -/
def Ppu.changeMode (mem : Memory) (p : Ppu) (iflag : BitVec 5) : Ppu × BitVec 5 :=
  let m := modeFor p.ly.toNat p.cycleCount
  if m = p.mode then (p, iflag) else p.enterMode mem m iflag

/-- A tick with the LCD on and no enable delay running (R484). -/
def Ppu.scanTick (mem : Memory) (p : Ppu) (iflag : BitVec 5) : Ppu × BitVec 5 :=
  let r := if p.cycleCount + 1 = 456 then p.endLine iflag else ({ p with cycleCount := p.cycleCount + 1 }, iflag)
  r.1.changeMode mem r.2

/-- `PPU.tick()` (R484). -/
def Ppu.tick (mem : Memory) (p : Ppu) (iflag : BitVec 5) : Ppu × BitVec 5 :=
  if p.lcdOn then
    match p.enableDelay with
    | 0 => p.scanTick mem iflag
    | 1 => Ppu.enterOamSearch { p with enableDelay := 0 } iflag
    | n + 2 => ({ p with enableDelay := n + 1 }, iflag)
  else ({ p with lcdOffCycles := p.lcdOffCycles + 1 }, iflag)

/-- `PPU.advance(n)` (R484). -/
def Ppu.advance (mem : Memory) : Nat → Ppu × BitVec 5 → Ppu × BitVec 5
  | 0, r => r
  | n + 1, r => Ppu.advance mem n (r.1.tick mem r.2)

/-! ### LCD enable and disable -/

/-- The 1 to 0 edge of LCDC.7 (R490). -/
def Ppu.disableLcd (p : Ppu) : Ppu :=
  { p with ly := 0, mode := .hblank, cycleCount := 0, windowLine := 0, windowDrawn := false, enableDelay := 0,
           coincidence := decide (0 = p.lyc) }

/-- The 0 to 1 edge of LCDC.7 (R491). -/
def Ppu.enableLcd (params : Params) (p : Ppu) (iflag : BitVec 5) : Ppu × BitVec 5 :=
  let r := Ppu.updateCoincidence { p with ly := 0, cycleCount := 0, windowLine := 0, windowDrawn := false } iflag
  match params.lcdEnable with
  | .none => r.1.enterOamSearch r.2
  | .four => ({ r.1 with enableDelay := 4 }, r.2)

/-- A write to LCDC (R490 to R492): the store, the bit-7 edge, then the bit-5 edge. -/
def Ppu.writeLcdc (params : Params) (p : Ppu) (v : Byte) (iflag : BitVec 5) : Ppu × BitVec 5 :=
  let stored := { p with lcdc := v }
  let r :=
    if p.lcdOn && !v.getLsbD 7 then (stored.disableLcd, iflag)
    else if !p.lcdOn && v.getLsbD 7 then stored.enableLcd params iflag
    else (stored, iflag)
  if !p.lcdc.getLsbD 5 && v.getLsbD 5 then ({ r.1 with windowLine := 0 }, r.2) else r

/-- A write to STAT stores bits 6..3 (R480). -/
def Ppu.writeStat (p : Ppu) (v : Byte) : Ppu := { p with statEnables := v.extractLsb' 3 4 }

/-- The offset in OAM of the byte the sprite scan is reading (20_memory.md R95). -/
def Ppu.scanOffset (p : Ppu) : Nat := 4 * (p.cycleCount / 2) + p.cycleCount % 2

end Sys2Proof.Machine
end

