-- ==== Sys2Proof/Machine/Timer.lean ====
section
/-! DEFINITION. Timer and divider (61_timer.md R460 to R467). Each operation takes IF and answers the timer with IF. -/

namespace Sys2Proof.Machine

/-- The T-cycles from an overflow of TIMA to its reload (R465). -/
def reloadDelay : TimerReloadDelay → Nat
  | .delayed => 4
  | .immediate => 0

/-- `sel(TAC)` (R460): the counter bit TAC[1:0] selects. -/
def Timer.selectedBit (t : Timer) : Nat :=
  match (t.tac.toNat) % 4 with
  | 0 => 9
  | 1 => 3
  | 2 => 5
  | _ => 7

/-- `signal` (R460): enabled, and the selected bit of the counter is 1. -/
def Timer.signal (t : Timer) : Bool := t.tac.getLsbD 2 && t.counter.getLsbD t.selectedBit

/-- `Reload()` (R466): TIMA takes TMA and the timer interrupt is requested. -/
def Timer.reload (t : Timer) (iflag : BitVec 5) : Timer × BitVec 5 :=
  ({ t with tima := t.tma }, request .timer iflag)

/-- `IncrementTIMA()` (R465). -/
def Timer.increment (p : Params) (t : Timer) (iflag : BitVec 5) : Timer × BitVec 5 :=
  if t.tima = 0xFF then
    match p.timerReload with
    | .immediate => Timer.reload { t with tima := 0x00 } iflag
    | .delayed => ({ t with tima := 0x00, reloadCountdown := reloadDelay .delayed }, iflag)
  else ({ t with tima := t.tima + 1 }, iflag)

/-- `EdgeCheck()` (R462): a falling edge of `signal` increments TIMA. -/
def Timer.edgeCheck (p : Params) (t : Timer) (iflag : BitVec 5) : Timer × BitVec 5 :=
  let r := if t.prevSignal && !t.signal then t.increment p iflag else (t, iflag)
  ({ r.1 with prevSignal := t.signal }, r.2)

/-- The countdown of a pending reload, one T-cycle (R462). -/
def Timer.countDown (t : Timer) (iflag : BitVec 5) : Timer × BitVec 5 :=
  match t.reloadCountdown with
  | 0 => (t, iflag)
  | 1 => Timer.reload { t with reloadCountdown := 0 } iflag
  | n + 2 => ({ t with reloadCountdown := n + 1 }, iflag)

/-- `Timer.tick()` (R462): the counter, then the countdown, then the edge check. -/
def Timer.tick (p : Params) (t : Timer) (iflag : BitVec 5) : Timer × BitVec 5 :=
  let r := Timer.countDown { t with counter := t.counter + 1 } iflag
  r.1.edgeCheck p r.2

/-- `Timer.advance(n)` (R462). -/
def Timer.advance (p : Params) : Nat → Timer × BitVec 5 → Timer × BitVec 5
  | 0, r => r
  | n + 1, r => Timer.advance p n (r.1.tick p r.2)

/-- A write to DIV (R463): the counter becomes 0, then the edge check. -/
def Timer.writeDiv (p : Params) (t : Timer) (iflag : BitVec 5) : Timer × BitVec 5 :=
  Timer.edgeCheck p { t with counter := 0 } iflag

/-- A write to TAC (R464): bits 2..0 are stored, then the edge check. -/
def Timer.writeTac (p : Params) (t : Timer) (v : Byte) (iflag : BitVec 5) : Timer × BitVec 5 :=
  Timer.edgeCheck p { t with tac := v.setWidth 3 } iflag

/-- A write to TIMA (R466): stores, and cancels a pending reload with its request. -/
def Timer.writeTima (t : Timer) (v : Byte) : Timer := { t with tima := v, reloadCountdown := 0 }

/-- A write to TMA (R466): a plain store, seen by a pending reload. -/
def Timer.writeTma (t : Timer) (v : Byte) : Timer := { t with tma := v }

/-- DIV (R461). -/
def Timer.div (t : Timer) : Byte := t.counter.extractLsb' 8 8

end Sys2Proof.Machine
end

