-- ==== Sys2Proof/Machine/Bus.lean ====
section
/-! DEFINITION. The memory bus: the address map, the read and write contracts, the joypad register and OAM DMA
(20_memory.md R70 to R116, 60_exceptions.md R440 to R443). -/

namespace Sys2Proof.Machine

/-- The regions of the address map (R77). -/
inductive Region where
  | rom
  | vram
  | xram
  | wram
  | echo
  | oam
  | prohibited
  | io
  | hram
  | ie
  deriving DecidableEq, Repr

/-- The region an address lies in (R77). -/
def regionOf (a : Nat) : Region :=
  if a < 0x8000 then .rom
  else if a < 0xA000 then .vram
  else if a < 0xC000 then .xram
  else if a < 0xE000 then .wram
  else if a < 0xFE00 then .echo
  else if a < 0xFEA0 then .oam
  else if a < 0xFF00 then .prohibited
  else if a < 0xFF80 then .io
  else if a < 0xFFFF then .hram
  else .ie

/-! ### Joypad -/

/-- A read of P1 (60_exceptions.md R441). -/
def joypadByte (select : BitVec 2) (buttons : Byte) : Byte :=
  let directions : BitVec 4 := if select.getLsbD 0 then 0xF else buttons.setWidth 4
  let actions : BitVec 4 := if select.getLsbD 1 then 0xF else buttons.extractLsb' 4 4
  0b11#2 ++ select ++ (directions &&& actions)

/-- One input event of the host (60_exceptions.md R443): a newly held button requests the joypad interrupt. -/
def State.applyInput (s : State) (b : Byte) : State :=
  { s with buttons := b, iflag := requestIf (decide (s.buttons &&& ~~~b ≠ 0)) .joypad s.iflag }

/-- Every event queued since the previous step, in order (60_exceptions.md R401, R443). -/
def State.applyInputs (s : State) : State :=
  { s.inputQueue.foldl State.applyInput s with inputQueue := [] }

/-! ### Reads -/

/-- `IoRead(a)` (R86), by the low byte of the address. -/
def State.ioRead (s : State) (reg : Nat) : Byte :=
  match reg with
  | 0x00 => joypadByte s.joypSelect s.buttons
  | 0x04 => s.timer.div
  | 0x05 => s.timer.tima
  | 0x06 => s.timer.tma
  | 0x07 => 0x1F#5 ++ s.timer.tac
  | 0x0F => 0b111#3 ++ s.iflag
  | 0x40 => s.ppu.lcdc
  | 0x41 => s.ppu.statByte
  | 0x42 => s.ppu.scy
  | 0x43 => s.ppu.scx
  | 0x44 => s.ppu.ly
  | 0x45 => s.ppu.lyc
  | 0x46 => s.ppu.dma
  | 0x47 => s.ppu.bgp
  | 0x48 => s.ppu.obp0
  | 0x49 => s.ppu.obp1
  | 0x4A => s.ppu.wy
  | 0x4B => s.ppu.wx
  | n =>
    if 0x10 ≤ n ∧ n < 0x30 then s.apu.read n
    else if 0x30 ≤ n ∧ n < 0x40 then s.ram.read (0xFF00 + n)
    else 0xFF

/-- Whether VRAM answers the CPU: not in mode 3 (R82). -/
def State.vramOpen (s : State) : Bool := decide (s.ppu.mode ≠ .transfer)

/-- Whether OAM answers a CPU read: not in modes 2 and 3 (R85). -/
def State.oamOpen (s : State) : Bool := decide (s.ppu.mode ≠ .transfer) && decide (s.ppu.mode ≠ .oamSearch)

/-- `MemRead(a, 1)` (R80 to R87): a pure function of the state. -/
def State.memRead (s : State) (addr : Word) : Byte :=
  let a := addr.toNat
  match regionOf a with
  | .rom => s.cart.readRom a
  | .vram => if s.vramOpen then s.ram.read a else 0xFF
  | .xram => s.cart.readRam a
  | .wram => s.ram.read a
  | .echo => s.ram.read (a - 0x2000)
  | .oam => if s.oamOpen then s.ram.read a else 0xFF
  | .prohibited => 0xFF
  | .io => s.ioRead (a - 0xFF00)
  | .hram => s.ram.read a
  | .ie => s.ie

/-! ### Writes -/

/-- Stores a byte of the array `ram`. -/
def State.writeArray (s : State) (a : Nat) (v : Byte) : State := { s with ram := s.ram.write a v }

/-- Puts a timer operation's answer back. -/
def State.setTimer (s : State) (r : Timer × BitVec 5) : State := { s with timer := r.1, iflag := r.2 }

/-- Puts a PPU operation's answer back. -/
def State.setPpu (s : State) (r : Ppu × BitVec 5) : State := { s with ppu := r.1, iflag := r.2 }

/-- One byte of the OAM DMA copy (R104): the source through the read contract, the destination straight into OAM. -/
def State.dmaByte (v : Byte) (s : State) (i : Nat) : State :=
  s.writeArray (0xFE00 + i) (s.memRead (v ++ BitVec.ofNat 8 i))

/-- A write to the DMA register (R104): the store, then the copy of 160 bytes, at once. -/
def State.oamDma (s : State) (v : Byte) : State :=
  (List.range 160).foldl (State.dmaByte v) { s with ppu := { s.ppu with dma := v } }

/-- `IoWrite(a, v)` (R96), by the low byte of the address. -/
def State.ioWrite (s : State) (reg : Nat) (v : Byte) : State :=
  match reg with
  | 0x00 => { s with joypSelect := v.extractLsb' 4 2 }
  | 0x04 => s.setTimer (s.timer.writeDiv s.params s.iflag)
  | 0x05 => { s with timer := s.timer.writeTima v }
  | 0x06 => { s with timer := s.timer.writeTma v }
  | 0x07 => s.setTimer (s.timer.writeTac s.params v s.iflag)
  | 0x0F => { s with iflag := v.setWidth 5 }
  | 0x40 => s.setPpu (s.ppu.writeLcdc s.params v s.iflag)
  | 0x41 => { s with ppu := s.ppu.writeStat v }
  | 0x42 => { s with ppu := { s.ppu with scy := v } }
  | 0x43 => { s with ppu := { s.ppu with scx := v } }
  | 0x45 => { s with ppu := { s.ppu with lyc := v } }
  | 0x46 => s.oamDma v
  | 0x47 => { s with ppu := { s.ppu with bgp := v } }
  | 0x48 => { s with ppu := { s.ppu with obp0 := v } }
  | 0x49 => { s with ppu := { s.ppu with obp1 := v } }
  | 0x4A => { s with ppu := { s.ppu with wy := v } }
  | 0x4B => { s with ppu := { s.ppu with wx := v } }
  | n =>
    if 0x10 ≤ n ∧ n < 0x30 then { s with apu := s.apu.write s.params n v }
    else if 0x30 ≤ n ∧ n < 0x40 then s.writeArray (0xFF00 + n) v
    else s

/-- A write to OAM (R94, R95): ignored in mode 3; in mode 2 the byte the sprite scan is reading is stored instead. -/
def State.writeOam (s : State) (a : Nat) (v : Byte) : State :=
  match s.ppu.mode with
  | .transfer => s
  | .oamSearch => s.writeArray a (s.ram.read (0xFE00 + s.ppu.scanOffset))
  | .hblank => s.writeArray a v
  | .vblank => s.writeArray a v

/-- `MemWrite(a, 1, v)` (R90 to R96). -/
def State.memWrite (s : State) (addr : Word) (v : Byte) : State :=
  let a := addr.toNat
  match regionOf a with
  | .rom => { s with cart := s.cart.writeControl a v }
  | .vram => if s.vramOpen then s.writeArray a v else s
  | .xram => { s with cart := s.cart.writeRam a v }
  | .wram => s.writeArray a v
  | .echo => s.writeArray (a - 0x2000) v
  | .oam => s.writeOam a v
  | .prohibited => s
  | .io => s.ioWrite (a - 0xFF00) v
  | .hram => s.writeArray a v
  | .ie => { s with ie := v }

/-! ### The devices' advance (60_exceptions.md R401) -/

/-- The timer, n T-cycles. -/
def State.advanceTimer (s : State) (n : Nat) : State := s.setTimer (Timer.advance s.params n (s.timer, s.iflag))

/-- The PPU, n T-cycles; it reads VRAM and OAM from the array (62_ppu.md R495, R508). -/
def State.advancePpu (s : State) (n : Nat) : State := s.setPpu (Ppu.advance s.ram n (s.ppu, s.iflag))

/-- The APU and the sample clock, n T-cycles; they request no interrupt (63_apu.md R564, R565). -/
def State.advanceApu (s : State) (n : Nat) : State :=
  { s with apu := Apu.advance s.ram n s.apu, audio := Audio.advance s.params s.ram n s.apu s.audio }

/-- Timer, PPU, APU, each advanced by n T-cycles, in that order (R401, 20_memory.md R111). -/
def State.advanceDevices (s : State) (n : Nat) : State := ((s.advanceTimer n).advancePpu n).advanceApu n

/-! ### What the host reads and hands in between steps (70_reset_and_hazards.md R646, R647) -/

/-- The host queues an input event (60_exceptions.md R443). -/
def State.queueInput (s : State) (b : Byte) : State := { s with inputQueue := s.inputQueue ++ [b] }

/-- The mixed sample of now, before the filter (63_apu.md R564). -/
def State.sample (s : State) : Int × Int := s.apu.sample s.params

/-- What `take_samples` answers: the samples put into `dst`, their count, the state without them. -/
structure Drained where
  dst   : List Int
  count : Nat
  after : State
  deriving DecidableEq, Repr

/-- Stereo samples interleaved, left before right (63_apu.md R564). -/
def interleave : List (Int × Int) → List Int
  | [] => []
  | x :: rest => x.1 :: x.2 :: interleave rest

/-- `take_samples(dst, n)` (63_apu.md R564, 70_reset_and_hazards.md R647): the oldest stereo samples, at most n, leave the
stream (that all there are up to n leave it, and that n counts stereo samples: DESIGN CHOICE, log entry 13:
unsafe for a claim about how many are left). -/
def State.takeSamples (s : State) (n : Nat) : Drained :=
  { dst := interleave (s.audio.samples.take n), count := (s.audio.samples.take n).length,
    after := { s with audio := { s.audio with samples := s.audio.samples.drop n } } }

/-- The last frame handed to the host (62_ppu.md R488). -/
def State.frame (s : State) : List (List Shade) := s.ppu.presentedFrame

end Sys2Proof.Machine
end

