-- ==== Sys2Proof/Machine/Ops.lean ====
section
/-! DEFINITION. The named operations over registers and memory that the meanings share: registers and pairs, the
stack, fetching an instruction, and taking and leaving an interrupt. -/

namespace Sys2Proof.Machine

/-- What a meaning or a step answers. -/
abbrev Answer := Host.Outcome State Fault Refusal

/-! ### Registers (10_state.md R30 to R35) -/

/-- The operands r (R30). -/
inductive Reg8 where
  | b
  | c
  | d
  | e
  | h
  | l
  | a
  deriving DecidableEq, Repr

/-- The operands rr of the 16-bit loads and arithmetic, `rp[p]` (30_encoding.md R132). -/
inductive Pair where
  | bc
  | de
  | hl
  | sp
  deriving DecidableEq, Repr

/-- The operands rr of PUSH and POP, `rp2[p]` (30_encoding.md R132). -/
inductive StackPair where
  | bc
  | de
  | hl
  | af
  deriving DecidableEq, Repr

/-- The register's value. -/
def Regs.get (g : Regs) : Reg8 → Byte
  | .b => g.b
  | .c => g.c
  | .d => g.d
  | .e => g.e
  | .h => g.h
  | .l => g.l
  | .a => g.a

/-- The registers with one of them written. -/
def Regs.set (g : Regs) (r : Reg8) (v : Byte) : Regs :=
  match r with
  | .b => { g with b := v }
  | .c => { g with c := v }
  | .d => { g with d := v }
  | .e => { g with e := v }
  | .h => { g with h := v }
  | .l => { g with l := v }
  | .a => { g with a := v }

/-- `r8[r]`. -/
def State.getR (s : State) (r : Reg8) : Byte := s.regs.get r

/-- `r8[r] <- v`. -/
def State.setR (s : State) (r : Reg8) (v : Byte) : State := { s with regs := s.regs.set r v }

/-- F as a byte (10_state.md R35): Z, N, H, C, then four 0s. -/
def Flags.toByte (f : Flags) : Byte :=
  BitVec.ofBool f.z ++ BitVec.ofBool f.n ++ BitVec.ofBool f.h ++ BitVec.ofBool f.c ++ 0#4

/-- A write of v to F stores `v & 0xF0` (10_state.md R31). -/
def Flags.ofByte (v : Byte) : Flags :=
  { z := v.getLsbD 7, n := v.getLsbD 6, h := v.getLsbD 5, c := v.getLsbD 4 }

/-- `B:C` (10_state.md R32). -/
def State.bc (s : State) : Word := wordOf s.regs.c s.regs.b
/-- `D:E`. -/
def State.de (s : State) : Word := wordOf s.regs.e s.regs.d
/-- `H:L`. -/
def State.hl (s : State) : Word := wordOf s.regs.l s.regs.h
/-- `A:F`. -/
def State.af (s : State) : Word := wordOf s.flags.toByte s.regs.a

/-- `r16[BC] <- v` (00_scope.md R14). -/
def State.setBc (s : State) (v : Word) : State := { s with regs := { s.regs with b := hiByte v, c := loByte v } }
/-- `r16[DE] <- v`. -/
def State.setDe (s : State) (v : Word) : State := { s with regs := { s.regs with d := hiByte v, e := loByte v } }
/-- `r16[HL] <- v`. -/
def State.setHl (s : State) (v : Word) : State := { s with regs := { s.regs with h := hiByte v, l := loByte v } }
/-- `r16[AF] <- v`: F takes the low byte without its low nibble (41_load16_stack.md R237). -/
def State.setAf (s : State) (v : Word) : State :=
  { s with regs := { s.regs with a := hiByte v }, flags := Flags.ofByte (loByte v) }

/-- The value of rr, SP included. -/
def State.getPair (s : State) : Pair → Word
  | .bc => s.bc
  | .de => s.de
  | .hl => s.hl
  | .sp => s.sp

/-- A write of rr, SP included. -/
def State.setPair (s : State) (p : Pair) (v : Word) : State :=
  match p with
  | .bc => s.setBc v
  | .de => s.setDe v
  | .hl => s.setHl v
  | .sp => { s with sp := v }

/-- The value PUSH stores. -/
def State.getStackPair (s : State) : StackPair → Word
  | .bc => s.bc
  | .de => s.de
  | .hl => s.hl
  | .af => s.af

/-- The write POP makes. -/
def State.setStackPair (s : State) (p : StackPair) (v : Word) : State :=
  match p with
  | .bc => s.setBc v
  | .de => s.setDe v
  | .hl => s.setHl v
  | .af => s.setAf v

/-! ### The end of a meaning -/

/-- The next state of an instruction whose T-cycles are `t` (70_reset_and_hazards.md R620, log entry 8). -/
def finish (t : Nat) (s : State) : Answer := .next { s with tcycles := t }

/-! ### Stack (41_load16_stack.md R236) -/

/-- One byte of a push: SP is decremented, then the byte is written. -/
def State.pushByte (s : State) (v : Byte) : State :=
  let t := { s with sp := s.sp - 1 }
  t.memWrite t.sp v

/-- `Push16(v)`: the high byte, then the low byte. -/
def State.push16 (s : State) (v : Word) : State := (s.pushByte (hiByte v)).pushByte (loByte v)

/-- The value `Pop16()` returns: the low byte at SP, the high byte above it. -/
def State.popValue (s : State) : Word := wordOf (s.memRead s.sp) (s.memRead (s.sp + 1))

/-- The state after `Pop16()`: SP is two higher. -/
def State.popped (s : State) : State := { s with sp := s.sp + 1 + 1 }

/-! ### 16-bit stores (00_scope.md R15) -/

/-- `MemWrite16(a, v)`: the low byte, then the high byte. -/
def State.memWrite16 (s : State) (a v : Word) : State := (s.memWrite a (loByte v)).memWrite (a + 1) (hiByte v)

/-! ### Fetch and decode (30_encoding.md R134 to R137) -/

/-- Where the byte after the opcode is fetched: the HALT bug suppresses one advance of PC (R135). -/
def State.operandAddr (s : State) : Word := if s.haltBugActive then s.pc else s.pc + 1

/-- The three bytes a fetch can read: the opcode and the two bytes after it. -/
def State.fetchBytes (s : State) : Byte × Byte × Byte :=
  (s.memRead s.pc, s.memRead s.operandAddr, s.memRead (s.operandAddr + 1))

/-- The instruction at PC (R134). -/
def State.fetched (s : State) : Instr :=
  let b := s.fetchBytes
  decodeOp b.1 b.2.1 b.2.2

/-- The state once the instruction's own bytes are fetched: PC just past them, the HALT bug consumed (R135 to R137). -/
def State.afterFetch (s : State) : State :=
  { s with haltBugActive := false,
           pc := s.operandAddr + BitVec.ofNat 16 (instrLength (s.memRead s.pc) - 1) }

/-! ### Interrupts (60_exceptions.md R411 to R423) -/

/-- `Pending = IE & IF & 0x1F` (R400). -/
def State.pending (s : State) : BitVec 5 := s.ie.setWidth 5 &&& s.iflag

/-- The lowest set bit: the source dispatched when several are pending (R415). -/
def firstInterrupt (p : BitVec 5) : Option Interrupt :=
  if p.getLsbD 0 then some .vblank
  else if p.getLsbD 1 then some .stat
  else if p.getLsbD 2 then some .timer
  else if p.getLsbD 3 then some .serial
  else if p.getLsbD 4 then some .joypad
  else none

/-- The fixed vectors (R414; 70_reset_and_hazards.md R616). -/
def Interrupt.vector : Interrupt → Word
  | .vblank => 0x0040
  | .stat   => 0x0048
  | .timer  => 0x0050
  | .serial => 0x0058
  | .joypad => 0x0060

/-- `Dispatch(i)` (R420), the one way an interrupt is taken: PC is pushed, IME and the serviced IF bit are cleared,
PC goes to the vector, the halted state ends. Nothing else is saved or changed. -/
def State.dispatch (s : State) (i : Interrupt) : State :=
  let t := s.push16 s.pc
  { t with ime := false, iflag := t.iflag &&& ~~~i.mask, pc := i.vector, halted := false }

/-- The return from an interrupt handler (46_misc.md R342, R421): PC is popped and IME set, nothing else restored. -/
def State.returnFromInterrupt (s : State) : State := { s.popped with pc := s.popValue, ime := true }

end Sys2Proof.Machine
end

