-- ==== Sys2Proof/Machine/Operands.lean ====
section
/-! DEFINITION. The operand forms of the instruction set (30_encoding.md R132, R133): ALU sources, CB targets and
conditions, with how each is read, written and counted. -/

namespace Sys2Proof.Machine

/-- The source of a two-operand ALU instruction (42_alu8.md R250). -/
inductive Src8 where
  | reg (r : Reg8)
  | atHl
  | imm (n : Byte)
  deriving DecidableEq, Repr

/-- `Src8(s)` (R250). -/
def Src8.value (src : Src8) (s : State) : Byte :=
  match src with
  | .reg r => s.getR r
  | .atHl => s.memRead s.hl
  | .imm n => n

/-- The T-cycles of an ALU instruction by its source form (R250). -/
def Src8.cycles : Src8 → Nat
  | .reg _ => 4
  | .atHl => 8
  | .imm _ => 8

/-- The operand of a CB-prefixed instruction (47_cb_shift.md R360). -/
inductive Target where
  | reg (r : Reg8)
  | atHl
  deriving DecidableEq, Repr

/-- `Get(t)` (R360). -/
def Target.get (t : Target) (s : State) : Byte :=
  match t with
  | .reg r => s.getR r
  | .atHl => s.memRead s.hl

/-- `Set(t, v)` (R360). -/
def Target.set (t : Target) (s : State) (v : Byte) : State :=
  match t with
  | .reg r => s.setR r v
  | .atHl => s.memWrite s.hl v

/-- The T-cycles of a CB instruction that writes its target (R360). -/
def Target.cycles : Target → Nat
  | .reg _ => 8
  | .atHl => 16

/-- The T-cycles of BIT (48_cb_bit.md R380). -/
def Target.bitCycles : Target → Nat
  | .reg _ => 8
  | .atHl => 12

/-- The operand code z of a CB instruction (30_encoding.md R132, 47_cb_shift.md R360). -/
def Target.ofCode (z : Nat) : Target :=
  match z with
  | 0 => .reg .b
  | 1 => .reg .c
  | 2 => .reg .d
  | 3 => .reg .e
  | 4 => .reg .h
  | 5 => .reg .l
  | 6 => .atHl
  | _ => .reg .a

/-- The conditions cc (45_control.md R300). -/
inductive Cond where
  | nz
  | z
  | nc
  | c
  deriving DecidableEq, Repr

/-- Whether a condition holds (R300). -/
def Cond.holds (cc : Cond) (f : Flags) : Bool :=
  match cc with
  | .nz => !f.z
  | .z => f.z
  | .nc => !f.c
  | .c => f.c

end Sys2Proof.Machine
end

