-- ==== Sys2Proof/Machine/Flags.lean ====
section
/-! DEFINITION. Every flag computation of the instruction set: each gives a result with its flags, from operands and
the flags before. Sums are taken on unbounded integers and reduced when they are written (00_scope.md R13). -/

namespace Sys2Proof.Machine

/-- A result with the flags that go with it. -/
structure Out8 where
  value : Byte
  flags : Flags
  deriving DecidableEq, Repr

/-- A 16-bit result with the flags that go with it. -/
structure Out16 where
  value : Word
  flags : Flags
  deriving DecidableEq, Repr

/-- The low nibble as a number, `v & 0xF`. -/
def nibble (v : Byte) : Nat := v.toNat % 16

/-! ### 8-bit arithmetic and logic (42_alu8.md R251 to R262) -/

/-- `A + v + c` with its flags (R251 with c = 0, R252). -/
def addWith (a v : Byte) (c : Bool) : Out8 :=
  let t := a.toNat + v.toNat + c.toNat
  { value := BitVec.ofNat 8 t,
    flags := { z := decide (t % 256 = 0), n := false,
               h := decide (0xF < nibble a + nibble v + c.toNat), c := decide (0xFF < t) } }

/-- `A - v - c` with its flags (R253 with c = 0, R254). -/
def subWith (a v : Byte) (c : Bool) : Out8 :=
  let r := a - v - BitVec.ofNat 8 c.toNat
  { value := r,
    flags := { z := decide (r = 0), n := true,
               h := decide (nibble a < nibble v + c.toNat), c := decide (a.toNat < v.toNat + c.toNat) } }

/-- A logical result with its flags (R255 to R257): Hf is 1 for AND only. -/
def logic (r : Byte) (h : Bool) : Out8 :=
  { value := r, flags := { z := decide (r = 0), n := false, h := h, c := false } }

/-- The eight two-operand ALU operations in the order of y (30_encoding.md R132). -/
inductive AluOp where
  | add
  | adc
  | sub
  | sbc
  | and
  | xor
  | or
  | cp
  deriving DecidableEq, Repr

/-- An ALU operation on A and v, with the flags before (R251 to R258). CP keeps A. -/
def AluOp.apply (op : AluOp) (a v : Byte) (f : Flags) : Out8 :=
  match op with
  | .add => addWith a v false
  | .adc => addWith a v f.c
  | .sub => subWith a v false
  | .sbc => subWith a v f.c
  | .and => logic (a &&& v) true
  | .xor => logic (a ^^^ v) false
  | .or => logic (a ||| v) false
  | .cp => { value := a, flags := (subWith a v false).flags }

/-- `v + 1` with its flags; Cf unchanged (R259, R261). -/
def inc8 (v : Byte) (f : Flags) : Out8 :=
  let t := v + 1
  { value := t, flags := { f with z := decide (t = 0), n := false, h := decide (nibble t = 0) } }

/-- `v - 1` with its flags; Cf unchanged (R260, R262). -/
def dec8 (v : Byte) (f : Flags) : Out8 :=
  let t := v - 1
  { value := t, flags := { f with z := decide (t = 0), n := true, h := decide (nibble t = 0xF) } }

/-! ### 16-bit arithmetic (43_alu16.md R280, R282) -/

/-- `HL + v` with its flags; Z unchanged (R280). -/
def addHl (hl v : Word) (f : Flags) : Out16 :=
  let t := hl.toNat + v.toNat
  { value := BitVec.ofNat 16 t,
    flags := { f with n := false, h := decide (0xFFF < hl.toNat % 0x1000 + v.toNat % 0x1000),
                      c := decide (0xFFFF < t) } }

/-- `SP + sext(e)` with the carries of the unsigned low-byte sum (R282, 41_load16_stack.md R232). -/
def addSp (sp : Word) (e : Byte) : Out16 :=
  { value := sp + e.signExtend 16,
    flags := { z := false, n := false, h := decide (0xF < sp.toNat % 16 + nibble e),
               c := decide (0xFF < sp.toNat % 256 + e.toNat) } }

/-! ### Rotates and shifts (44_rotate_a.md R290 to R293, 47_cb_shift.md R361 to R368) -/

/-- The eight CB rotates and shifts in the order of y (30_encoding.md R132). -/
inductive RotOp where
  | rlc
  | rrc
  | rl
  | rr
  | sla
  | sra
  | swap
  | srl
  deriving DecidableEq, Repr

/-- The operation of field y (30_encoding.md R132). -/
def RotOp.ofCode (y : Nat) : RotOp :=
  match y with
  | 0 => .rlc
  | 1 => .rrc
  | 2 => .rl
  | 3 => .rr
  | 4 => .sla
  | 5 => .sra
  | 6 => .swap
  | _ => .srl

/-- A bit as the bit k of a byte, else 0. -/
def bitAt (b : Bool) (k : Nat) : Byte := if b then 1#8 <<< k else 0

/-- The rotated or shifted byte, with the carry before (R361 to R368). -/
def RotOp.value (op : RotOp) (v : Byte) (c : Bool) : Byte :=
  match op with
  | .rlc => (v <<< 1) ||| bitAt (v.getLsbD 7) 0
  | .rrc => (v >>> 1) ||| bitAt (v.getLsbD 0) 7
  | .rl => (v <<< 1) ||| bitAt c 0
  | .rr => (v >>> 1) ||| bitAt c 7
  | .sla => v <<< 1
  | .sra => (v >>> 1) ||| (v &&& 0x80)
  | .swap => (v <<< 4) ||| (v >>> 4)
  | .srl => v >>> 1

/-- The bit shifted out; 0 for SWAP (R367). -/
def RotOp.carry (op : RotOp) (v : Byte) : Bool :=
  match op with
  | .rlc => v.getLsbD 7
  | .rrc => v.getLsbD 0
  | .rl => v.getLsbD 7
  | .rr => v.getLsbD 0
  | .sla => v.getLsbD 7
  | .sra => v.getLsbD 0
  | .swap => false
  | .srl => v.getLsbD 0

/-- A CB rotate or shift with its flags (R361 to R368). -/
def RotOp.apply (op : RotOp) (v : Byte) (f : Flags) : Out8 :=
  let w := op.value v f.c
  { value := w, flags := { z := decide (w = 0), n := false, h := false, c := op.carry v } }

/-- A rotate of A: as the CB form, but Z is always 0 (R290 to R293). -/
def RotOp.applyA (op : RotOp) (v : Byte) (f : Flags) : Out8 :=
  { value := op.value v f.c, flags := { z := false, n := false, h := false, c := op.carry v } }

/-- The flags of BIT b on v; Cf unchanged (48_cb_bit.md R380). -/
def bitFlags (v : Byte) (b : Nat) (f : Flags) : Flags := { f with z := !v.getLsbD b, n := false, h := true }

/-! ### DAA (46_misc.md R330) -/

/-- Whether DAA applies its 0x60 correction. -/
def daaHigh (a : Byte) (f : Flags) : Bool := f.c || (!f.n && decide (0x99 < a.toNat))

/-- Whether DAA applies its 0x06 correction. -/
def daaLow (a : Byte) (f : Flags) : Bool := f.h || (!f.n && decide (9 < nibble a))

/-- DAA: the corrections are added after an addition and subtracted after a subtraction; N unchanged. -/
def daa (a : Byte) (f : Flags) : Out8 :=
  let k : Byte := (if daaHigh a f then 0x60 else 0) + (if daaLow a f then 0x06 else 0)
  let r := if f.n then a - k else a + k
  { value := r, flags := { f with z := decide (r = 0), h := false, c := daaHigh a f } }

end Sys2Proof.Machine
end

