-- ==== Sys2Proof/Machine/Alu16.lean ====
section
/-! DEFINITION. 16-bit arithmetic (43_alu16.md R280 to R283). -/

namespace Sys2Proof.Machine

/-- `ADD HL,rr` (R280). -/
def addPair (p : Pair) (s : State) : Answer :=
  let o := addHl s.hl (s.getPair p) s.flags
  finish 8 { s.setHl o.value with flags := o.flags }

/-- `INC rr` (R281): no flag. -/
def incPair (p : Pair) (s : State) : Answer := finish 8 (s.setPair p (s.getPair p + 1))

/-- `DEC rr` (R283): no flag. -/
def decPair (p : Pair) (s : State) : Answer := finish 8 (s.setPair p (s.getPair p - 1))

/-- `INC BC` (R281). -/
def exec_inc_bc (s : State) : Answer := incPair .bc s

/-- `ADD HL,BC` (R280). -/
def exec_add_hl_bc (s : State) : Answer := addPair .bc s

/-- `DEC BC` (R283). -/
def exec_dec_bc (s : State) : Answer := decPair .bc s

/-- `INC DE` (R281). -/
def exec_inc_de (s : State) : Answer := incPair .de s

/-- `ADD HL,DE` (R280). -/
def exec_add_hl_de (s : State) : Answer := addPair .de s

/-- `DEC DE` (R283). -/
def exec_dec_de (s : State) : Answer := decPair .de s

/-- `INC HL` (R281). -/
def exec_inc_hl (s : State) : Answer := incPair .hl s

/-- `ADD HL,HL` (R280). -/
def exec_add_hl_hl (s : State) : Answer := addPair .hl s

/-- `DEC HL` (R283). -/
def exec_dec_hl (s : State) : Answer := decPair .hl s

/-- `INC SP` (R281). -/
def exec_inc_sp (s : State) : Answer := incPair .sp s

/-- `ADD HL,SP` (R280). -/
def exec_add_hl_sp (s : State) : Answer := addPair .sp s

/-- `DEC SP` (R283). -/
def exec_dec_sp (s : State) : Answer := decPair .sp s

/-- `ADD SP,e` (R282). -/
def exec_add_sp_e (e : Byte) (s : State) : Answer :=
  finish 16 { s with sp := (addSp s.sp e).value, flags := (addSp s.sp e).flags }

end Sys2Proof.Machine
end

