-- ==== Sys2Proof/Machine/Alu8.lean ====
section
/-! DEFINITION. 8-bit arithmetic and logic (42_alu8.md R250 to R262). -/

namespace Sys2Proof.Machine

/-- A two-operand ALU instruction on A and its source (R250 to R258). -/
def aluA (op : AluOp) (src : Src8) (s : State) : Answer :=
  let o := op.apply (s.getR .a) (src.value s) s.flags
  finish src.cycles { s.setR .a o.value with flags := o.flags }

/-- `INC r` (R259). -/
def incReg (r : Reg8) (s : State) : Answer :=
  let o := inc8 (s.getR r) s.flags
  finish 4 { s.setR r o.value with flags := o.flags }

/-- `DEC r` (R260). -/
def decReg (r : Reg8) (s : State) : Answer :=
  let o := dec8 (s.getR r) s.flags
  finish 4 { s.setR r o.value with flags := o.flags }

/-- A read-modify-write of the byte at HL (R261, R262): the read, then the write. -/
def modifyAtHl (t : Nat) (o : Out8) (s : State) : Answer := finish t { s.memWrite s.hl o.value with flags := o.flags }

/-- `INC B` (R259). -/
def exec_inc_b (s : State) : Answer := incReg .b s

/-- `DEC B` (R260). -/
def exec_dec_b (s : State) : Answer := decReg .b s

/-- `INC C` (R259). -/
def exec_inc_c (s : State) : Answer := incReg .c s

/-- `DEC C` (R260). -/
def exec_dec_c (s : State) : Answer := decReg .c s

/-- `INC D` (R259). -/
def exec_inc_d (s : State) : Answer := incReg .d s

/-- `DEC D` (R260). -/
def exec_dec_d (s : State) : Answer := decReg .d s

/-- `INC E` (R259). -/
def exec_inc_e (s : State) : Answer := incReg .e s

/-- `DEC E` (R260). -/
def exec_dec_e (s : State) : Answer := decReg .e s

/-- `INC H` (R259). -/
def exec_inc_h (s : State) : Answer := incReg .h s

/-- `DEC H` (R260). -/
def exec_dec_h (s : State) : Answer := decReg .h s

/-- `INC L` (R259). -/
def exec_inc_l (s : State) : Answer := incReg .l s

/-- `DEC L` (R260). -/
def exec_dec_l (s : State) : Answer := decReg .l s

/-- `INC (HL)` (R261). -/
def exec_inc_atHl (s : State) : Answer := modifyAtHl 12 (inc8 (s.memRead s.hl) s.flags) s

/-- `DEC (HL)` (R262). -/
def exec_dec_atHl (s : State) : Answer := modifyAtHl 12 (dec8 (s.memRead s.hl) s.flags) s

/-- `INC A` (R259). -/
def exec_inc_a (s : State) : Answer := incReg .a s

/-- `DEC A` (R260). -/
def exec_dec_a (s : State) : Answer := decReg .a s

/-- `ADD A,B` (R251). -/
def exec_add_a_b (s : State) : Answer := aluA .add (.reg .b) s

/-- `ADD A,C` (R251). -/
def exec_add_a_c (s : State) : Answer := aluA .add (.reg .c) s

/-- `ADD A,D` (R251). -/
def exec_add_a_d (s : State) : Answer := aluA .add (.reg .d) s

/-- `ADD A,E` (R251). -/
def exec_add_a_e (s : State) : Answer := aluA .add (.reg .e) s

/-- `ADD A,H` (R251). -/
def exec_add_a_h (s : State) : Answer := aluA .add (.reg .h) s

/-- `ADD A,L` (R251). -/
def exec_add_a_l (s : State) : Answer := aluA .add (.reg .l) s

/-- `ADD A,(HL)` (R251). -/
def exec_add_a_atHl (s : State) : Answer := aluA .add .atHl s

/-- `ADD A,A` (R251). -/
def exec_add_a_a (s : State) : Answer := aluA .add (.reg .a) s

/-- `ADC A,B` (R252). -/
def exec_adc_a_b (s : State) : Answer := aluA .adc (.reg .b) s

/-- `ADC A,C` (R252). -/
def exec_adc_a_c (s : State) : Answer := aluA .adc (.reg .c) s

/-- `ADC A,D` (R252). -/
def exec_adc_a_d (s : State) : Answer := aluA .adc (.reg .d) s

/-- `ADC A,E` (R252). -/
def exec_adc_a_e (s : State) : Answer := aluA .adc (.reg .e) s

/-- `ADC A,H` (R252). -/
def exec_adc_a_h (s : State) : Answer := aluA .adc (.reg .h) s

/-- `ADC A,L` (R252). -/
def exec_adc_a_l (s : State) : Answer := aluA .adc (.reg .l) s

/-- `ADC A,(HL)` (R252). -/
def exec_adc_a_atHl (s : State) : Answer := aluA .adc .atHl s

/-- `ADC A,A` (R252). -/
def exec_adc_a_a (s : State) : Answer := aluA .adc (.reg .a) s

/-- `SUB B` (R253). -/
def exec_sub_b (s : State) : Answer := aluA .sub (.reg .b) s

/-- `SUB C` (R253). -/
def exec_sub_c (s : State) : Answer := aluA .sub (.reg .c) s

/-- `SUB D` (R253). -/
def exec_sub_d (s : State) : Answer := aluA .sub (.reg .d) s

/-- `SUB E` (R253). -/
def exec_sub_e (s : State) : Answer := aluA .sub (.reg .e) s

/-- `SUB H` (R253). -/
def exec_sub_h (s : State) : Answer := aluA .sub (.reg .h) s

/-- `SUB L` (R253). -/
def exec_sub_l (s : State) : Answer := aluA .sub (.reg .l) s

/-- `SUB (HL)` (R253). -/
def exec_sub_atHl (s : State) : Answer := aluA .sub .atHl s

/-- `SUB A` (R253). -/
def exec_sub_a (s : State) : Answer := aluA .sub (.reg .a) s

/-- `SBC A,B` (R254). -/
def exec_sbc_a_b (s : State) : Answer := aluA .sbc (.reg .b) s

/-- `SBC A,C` (R254). -/
def exec_sbc_a_c (s : State) : Answer := aluA .sbc (.reg .c) s

/-- `SBC A,D` (R254). -/
def exec_sbc_a_d (s : State) : Answer := aluA .sbc (.reg .d) s

/-- `SBC A,E` (R254). -/
def exec_sbc_a_e (s : State) : Answer := aluA .sbc (.reg .e) s

/-- `SBC A,H` (R254). -/
def exec_sbc_a_h (s : State) : Answer := aluA .sbc (.reg .h) s

/-- `SBC A,L` (R254). -/
def exec_sbc_a_l (s : State) : Answer := aluA .sbc (.reg .l) s

/-- `SBC A,(HL)` (R254). -/
def exec_sbc_a_atHl (s : State) : Answer := aluA .sbc .atHl s

/-- `SBC A,A` (R254). -/
def exec_sbc_a_a (s : State) : Answer := aluA .sbc (.reg .a) s

/-- `AND B` (R255). -/
def exec_and_b (s : State) : Answer := aluA .and (.reg .b) s

/-- `AND C` (R255). -/
def exec_and_c (s : State) : Answer := aluA .and (.reg .c) s

/-- `AND D` (R255). -/
def exec_and_d (s : State) : Answer := aluA .and (.reg .d) s

/-- `AND E` (R255). -/
def exec_and_e (s : State) : Answer := aluA .and (.reg .e) s

/-- `AND H` (R255). -/
def exec_and_h (s : State) : Answer := aluA .and (.reg .h) s

/-- `AND L` (R255). -/
def exec_and_l (s : State) : Answer := aluA .and (.reg .l) s

/-- `AND (HL)` (R255). -/
def exec_and_atHl (s : State) : Answer := aluA .and .atHl s

/-- `AND A` (R255). -/
def exec_and_a (s : State) : Answer := aluA .and (.reg .a) s

/-- `XOR B` (R256). -/
def exec_xor_b (s : State) : Answer := aluA .xor (.reg .b) s

/-- `XOR C` (R256). -/
def exec_xor_c (s : State) : Answer := aluA .xor (.reg .c) s

/-- `XOR D` (R256). -/
def exec_xor_d (s : State) : Answer := aluA .xor (.reg .d) s

/-- `XOR E` (R256). -/
def exec_xor_e (s : State) : Answer := aluA .xor (.reg .e) s

/-- `XOR H` (R256). -/
def exec_xor_h (s : State) : Answer := aluA .xor (.reg .h) s

/-- `XOR L` (R256). -/
def exec_xor_l (s : State) : Answer := aluA .xor (.reg .l) s

/-- `XOR (HL)` (R256). -/
def exec_xor_atHl (s : State) : Answer := aluA .xor .atHl s

/-- `XOR A` (R256). -/
def exec_xor_a (s : State) : Answer := aluA .xor (.reg .a) s

/-- `OR B` (R257). -/
def exec_or_b (s : State) : Answer := aluA .or (.reg .b) s

/-- `OR C` (R257). -/
def exec_or_c (s : State) : Answer := aluA .or (.reg .c) s

/-- `OR D` (R257). -/
def exec_or_d (s : State) : Answer := aluA .or (.reg .d) s

/-- `OR E` (R257). -/
def exec_or_e (s : State) : Answer := aluA .or (.reg .e) s

/-- `OR H` (R257). -/
def exec_or_h (s : State) : Answer := aluA .or (.reg .h) s

/-- `OR L` (R257). -/
def exec_or_l (s : State) : Answer := aluA .or (.reg .l) s

/-- `OR (HL)` (R257). -/
def exec_or_atHl (s : State) : Answer := aluA .or .atHl s

/-- `OR A` (R257). -/
def exec_or_a (s : State) : Answer := aluA .or (.reg .a) s

/-- `CP B` (R258). -/
def exec_cp_b (s : State) : Answer := aluA .cp (.reg .b) s

/-- `CP C` (R258). -/
def exec_cp_c (s : State) : Answer := aluA .cp (.reg .c) s

/-- `CP D` (R258). -/
def exec_cp_d (s : State) : Answer := aluA .cp (.reg .d) s

/-- `CP E` (R258). -/
def exec_cp_e (s : State) : Answer := aluA .cp (.reg .e) s

/-- `CP H` (R258). -/
def exec_cp_h (s : State) : Answer := aluA .cp (.reg .h) s

/-- `CP L` (R258). -/
def exec_cp_l (s : State) : Answer := aluA .cp (.reg .l) s

/-- `CP (HL)` (R258). -/
def exec_cp_atHl (s : State) : Answer := aluA .cp .atHl s

/-- `CP A` (R258). -/
def exec_cp_a (s : State) : Answer := aluA .cp (.reg .a) s

/-- `ADD A,n` (R251). -/
def exec_add_a_n (n : Byte) (s : State) : Answer := aluA .add (.imm n) s

/-- `ADC A,n` (R252). -/
def exec_adc_a_n (n : Byte) (s : State) : Answer := aluA .adc (.imm n) s

/-- `SUB n` (R253). -/
def exec_sub_n (n : Byte) (s : State) : Answer := aluA .sub (.imm n) s

/-- `SBC A,n` (R254). -/
def exec_sbc_a_n (n : Byte) (s : State) : Answer := aluA .sbc (.imm n) s

/-- `AND n` (R255). -/
def exec_and_n (n : Byte) (s : State) : Answer := aluA .and (.imm n) s

/-- `XOR n` (R256). -/
def exec_xor_n (n : Byte) (s : State) : Answer := aluA .xor (.imm n) s

/-- `OR n` (R257). -/
def exec_or_n (n : Byte) (s : State) : Answer := aluA .or (.imm n) s

/-- `CP n` (R258). -/
def exec_cp_n (n : Byte) (s : State) : Answer := aluA .cp (.imm n) s

end Sys2Proof.Machine
end

