-- ==== Sys2Proof/Machine/CbShift.lean ====
section
/-! DEFINITION. CB-prefixed rotates, shifts and SWAP (47_cb_shift.md R360 to R369). -/

namespace Sys2Proof.Machine

/-- A CB rotate or shift of a target: the read, then the write, then the flags (R360 to R368). -/
def rotateTarget (op : RotOp) (t : Target) (s : State) : Answer :=
  let o := op.apply (t.get s) s.flags
  finish t.cycles { t.set s o.value with flags := o.flags }

/-- `RLC B` (R361). -/
def exec_rlc_b (s : State) : Answer := rotateTarget .rlc (.reg .b) s

/-- `RLC C` (R361). -/
def exec_rlc_c (s : State) : Answer := rotateTarget .rlc (.reg .c) s

/-- `RLC D` (R361). -/
def exec_rlc_d (s : State) : Answer := rotateTarget .rlc (.reg .d) s

/-- `RLC E` (R361). -/
def exec_rlc_e (s : State) : Answer := rotateTarget .rlc (.reg .e) s

/-- `RLC H` (R361). -/
def exec_rlc_h (s : State) : Answer := rotateTarget .rlc (.reg .h) s

/-- `RLC L` (R361). -/
def exec_rlc_l (s : State) : Answer := rotateTarget .rlc (.reg .l) s

/-- `RLC (HL)` (R361). -/
def exec_rlc_atHl (s : State) : Answer := rotateTarget .rlc .atHl s

/-- `RLC A` (R361). -/
def exec_rlc_a (s : State) : Answer := rotateTarget .rlc (.reg .a) s

/-- `RRC B` (R362). -/
def exec_rrc_b (s : State) : Answer := rotateTarget .rrc (.reg .b) s

/-- `RRC C` (R362). -/
def exec_rrc_c (s : State) : Answer := rotateTarget .rrc (.reg .c) s

/-- `RRC D` (R362). -/
def exec_rrc_d (s : State) : Answer := rotateTarget .rrc (.reg .d) s

/-- `RRC E` (R362). -/
def exec_rrc_e (s : State) : Answer := rotateTarget .rrc (.reg .e) s

/-- `RRC H` (R362). -/
def exec_rrc_h (s : State) : Answer := rotateTarget .rrc (.reg .h) s

/-- `RRC L` (R362). -/
def exec_rrc_l (s : State) : Answer := rotateTarget .rrc (.reg .l) s

/-- `RRC (HL)` (R362). -/
def exec_rrc_atHl (s : State) : Answer := rotateTarget .rrc .atHl s

/-- `RRC A` (R362). -/
def exec_rrc_a (s : State) : Answer := rotateTarget .rrc (.reg .a) s

/-- `RL B` (R363). -/
def exec_rl_b (s : State) : Answer := rotateTarget .rl (.reg .b) s

/-- `RL C` (R363). -/
def exec_rl_c (s : State) : Answer := rotateTarget .rl (.reg .c) s

/-- `RL D` (R363). -/
def exec_rl_d (s : State) : Answer := rotateTarget .rl (.reg .d) s

/-- `RL E` (R363). -/
def exec_rl_e (s : State) : Answer := rotateTarget .rl (.reg .e) s

/-- `RL H` (R363). -/
def exec_rl_h (s : State) : Answer := rotateTarget .rl (.reg .h) s

/-- `RL L` (R363). -/
def exec_rl_l (s : State) : Answer := rotateTarget .rl (.reg .l) s

/-- `RL (HL)` (R363). -/
def exec_rl_atHl (s : State) : Answer := rotateTarget .rl .atHl s

/-- `RL A` (R363). -/
def exec_rl_a (s : State) : Answer := rotateTarget .rl (.reg .a) s

/-- `RR B` (R364). -/
def exec_rr_b (s : State) : Answer := rotateTarget .rr (.reg .b) s

/-- `RR C` (R364). -/
def exec_rr_c (s : State) : Answer := rotateTarget .rr (.reg .c) s

/-- `RR D` (R364). -/
def exec_rr_d (s : State) : Answer := rotateTarget .rr (.reg .d) s

/-- `RR E` (R364). -/
def exec_rr_e (s : State) : Answer := rotateTarget .rr (.reg .e) s

/-- `RR H` (R364). -/
def exec_rr_h (s : State) : Answer := rotateTarget .rr (.reg .h) s

/-- `RR L` (R364). -/
def exec_rr_l (s : State) : Answer := rotateTarget .rr (.reg .l) s

/-- `RR (HL)` (R364). -/
def exec_rr_atHl (s : State) : Answer := rotateTarget .rr .atHl s

/-- `RR A` (R364). -/
def exec_rr_a (s : State) : Answer := rotateTarget .rr (.reg .a) s

/-- `SLA B` (R365). -/
def exec_sla_b (s : State) : Answer := rotateTarget .sla (.reg .b) s

/-- `SLA C` (R365). -/
def exec_sla_c (s : State) : Answer := rotateTarget .sla (.reg .c) s

/-- `SLA D` (R365). -/
def exec_sla_d (s : State) : Answer := rotateTarget .sla (.reg .d) s

/-- `SLA E` (R365). -/
def exec_sla_e (s : State) : Answer := rotateTarget .sla (.reg .e) s

/-- `SLA H` (R365). -/
def exec_sla_h (s : State) : Answer := rotateTarget .sla (.reg .h) s

/-- `SLA L` (R365). -/
def exec_sla_l (s : State) : Answer := rotateTarget .sla (.reg .l) s

/-- `SLA (HL)` (R365). -/
def exec_sla_atHl (s : State) : Answer := rotateTarget .sla .atHl s

/-- `SLA A` (R365). -/
def exec_sla_a (s : State) : Answer := rotateTarget .sla (.reg .a) s

/-- `SRA B` (R366). -/
def exec_sra_b (s : State) : Answer := rotateTarget .sra (.reg .b) s

/-- `SRA C` (R366). -/
def exec_sra_c (s : State) : Answer := rotateTarget .sra (.reg .c) s

/-- `SRA D` (R366). -/
def exec_sra_d (s : State) : Answer := rotateTarget .sra (.reg .d) s

/-- `SRA E` (R366). -/
def exec_sra_e (s : State) : Answer := rotateTarget .sra (.reg .e) s

/-- `SRA H` (R366). -/
def exec_sra_h (s : State) : Answer := rotateTarget .sra (.reg .h) s

/-- `SRA L` (R366). -/
def exec_sra_l (s : State) : Answer := rotateTarget .sra (.reg .l) s

/-- `SRA (HL)` (R366). -/
def exec_sra_atHl (s : State) : Answer := rotateTarget .sra .atHl s

/-- `SRA A` (R366). -/
def exec_sra_a (s : State) : Answer := rotateTarget .sra (.reg .a) s

/-- `SWAP B` (R367). -/
def exec_swap_b (s : State) : Answer := rotateTarget .swap (.reg .b) s

/-- `SWAP C` (R367). -/
def exec_swap_c (s : State) : Answer := rotateTarget .swap (.reg .c) s

/-- `SWAP D` (R367). -/
def exec_swap_d (s : State) : Answer := rotateTarget .swap (.reg .d) s

/-- `SWAP E` (R367). -/
def exec_swap_e (s : State) : Answer := rotateTarget .swap (.reg .e) s

/-- `SWAP H` (R367). -/
def exec_swap_h (s : State) : Answer := rotateTarget .swap (.reg .h) s

/-- `SWAP L` (R367). -/
def exec_swap_l (s : State) : Answer := rotateTarget .swap (.reg .l) s

/-- `SWAP (HL)` (R367). -/
def exec_swap_atHl (s : State) : Answer := rotateTarget .swap .atHl s

/-- `SWAP A` (R367). -/
def exec_swap_a (s : State) : Answer := rotateTarget .swap (.reg .a) s

/-- `SRL B` (R368). -/
def exec_srl_b (s : State) : Answer := rotateTarget .srl (.reg .b) s

/-- `SRL C` (R368). -/
def exec_srl_c (s : State) : Answer := rotateTarget .srl (.reg .c) s

/-- `SRL D` (R368). -/
def exec_srl_d (s : State) : Answer := rotateTarget .srl (.reg .d) s

/-- `SRL E` (R368). -/
def exec_srl_e (s : State) : Answer := rotateTarget .srl (.reg .e) s

/-- `SRL H` (R368). -/
def exec_srl_h (s : State) : Answer := rotateTarget .srl (.reg .h) s

/-- `SRL L` (R368). -/
def exec_srl_l (s : State) : Answer := rotateTarget .srl (.reg .l) s

/-- `SRL (HL)` (R368). -/
def exec_srl_atHl (s : State) : Answer := rotateTarget .srl .atHl s

/-- `SRL A` (R368). -/
def exec_srl_a (s : State) : Answer := rotateTarget .srl (.reg .a) s

end Sys2Proof.Machine
end

