-- ==== Sys2Proof/Machine/CbBit.lean ====
section
/-! DEFINITION. CB-prefixed bit test, reset and set (48_cb_bit.md R380 to R382), and the prefix itself (R147). -/

namespace Sys2Proof.Machine

/-- `BIT b,t` (R380): the target is read, not written. -/
def bitTest (b : Nat) (t : Target) (s : State) : Answer :=
  finish t.bitCycles { s with flags := bitFlags (t.get s) b s.flags }

/-- `RES b,t` (R381). -/
def bitReset (b : Nat) (t : Target) (s : State) : Answer := finish t.cycles (t.set s (t.get s &&& ~~~(1#8 <<< b)))

/-- `SET b,t` (R382). -/
def bitSet (b : Nat) (t : Target) (s : State) : Answer := finish t.cycles (t.set s (t.get s ||| 1#8 <<< b))

/-- The CB-table entry of a second byte, by its fields x, y, z (30_encoding.md R132, R141). -/
def cbEntry (cbop : Byte) (s : State) : Answer :=
  let y := cbop.toNat / 8 % 8
  let t := Target.ofCode (cbop.toNat % 8)
  match cbop.toNat / 64 with
  | 0 => rotateTarget (RotOp.ofCode y) t s
  | 1 => bitTest y t s
  | 2 => bitReset y t s
  | _ => bitSet y t s

/-- `PREFIX CB` (R147): with its second byte: the CB-table entry (R134; log entry 7). -/
def exec_prefix_cb (cbop : Byte) (s : State) : Answer := cbEntry cbop s

/-- `BIT 0,B` (R380). -/
def exec_bit_0_b (s : State) : Answer := bitTest 0 (.reg .b) s

/-- `BIT 0,C` (R380). -/
def exec_bit_0_c (s : State) : Answer := bitTest 0 (.reg .c) s

/-- `BIT 0,D` (R380). -/
def exec_bit_0_d (s : State) : Answer := bitTest 0 (.reg .d) s

/-- `BIT 0,E` (R380). -/
def exec_bit_0_e (s : State) : Answer := bitTest 0 (.reg .e) s

/-- `BIT 0,H` (R380). -/
def exec_bit_0_h (s : State) : Answer := bitTest 0 (.reg .h) s

/-- `BIT 0,L` (R380). -/
def exec_bit_0_l (s : State) : Answer := bitTest 0 (.reg .l) s

/-- `BIT 0,(HL)` (R380). -/
def exec_bit_0_atHl (s : State) : Answer := bitTest 0 .atHl s

/-- `BIT 0,A` (R380). -/
def exec_bit_0_a (s : State) : Answer := bitTest 0 (.reg .a) s

/-- `BIT 1,B` (R380). -/
def exec_bit_1_b (s : State) : Answer := bitTest 1 (.reg .b) s

/-- `BIT 1,C` (R380). -/
def exec_bit_1_c (s : State) : Answer := bitTest 1 (.reg .c) s

/-- `BIT 1,D` (R380). -/
def exec_bit_1_d (s : State) : Answer := bitTest 1 (.reg .d) s

/-- `BIT 1,E` (R380). -/
def exec_bit_1_e (s : State) : Answer := bitTest 1 (.reg .e) s

/-- `BIT 1,H` (R380). -/
def exec_bit_1_h (s : State) : Answer := bitTest 1 (.reg .h) s

/-- `BIT 1,L` (R380). -/
def exec_bit_1_l (s : State) : Answer := bitTest 1 (.reg .l) s

/-- `BIT 1,(HL)` (R380). -/
def exec_bit_1_atHl (s : State) : Answer := bitTest 1 .atHl s

/-- `BIT 1,A` (R380). -/
def exec_bit_1_a (s : State) : Answer := bitTest 1 (.reg .a) s

/-- `BIT 2,B` (R380). -/
def exec_bit_2_b (s : State) : Answer := bitTest 2 (.reg .b) s

/-- `BIT 2,C` (R380). -/
def exec_bit_2_c (s : State) : Answer := bitTest 2 (.reg .c) s

/-- `BIT 2,D` (R380). -/
def exec_bit_2_d (s : State) : Answer := bitTest 2 (.reg .d) s

/-- `BIT 2,E` (R380). -/
def exec_bit_2_e (s : State) : Answer := bitTest 2 (.reg .e) s

/-- `BIT 2,H` (R380). -/
def exec_bit_2_h (s : State) : Answer := bitTest 2 (.reg .h) s

/-- `BIT 2,L` (R380). -/
def exec_bit_2_l (s : State) : Answer := bitTest 2 (.reg .l) s

/-- `BIT 2,(HL)` (R380). -/
def exec_bit_2_atHl (s : State) : Answer := bitTest 2 .atHl s

/-- `BIT 2,A` (R380). -/
def exec_bit_2_a (s : State) : Answer := bitTest 2 (.reg .a) s

/-- `BIT 3,B` (R380). -/
def exec_bit_3_b (s : State) : Answer := bitTest 3 (.reg .b) s

/-- `BIT 3,C` (R380). -/
def exec_bit_3_c (s : State) : Answer := bitTest 3 (.reg .c) s

/-- `BIT 3,D` (R380). -/
def exec_bit_3_d (s : State) : Answer := bitTest 3 (.reg .d) s

/-- `BIT 3,E` (R380). -/
def exec_bit_3_e (s : State) : Answer := bitTest 3 (.reg .e) s

/-- `BIT 3,H` (R380). -/
def exec_bit_3_h (s : State) : Answer := bitTest 3 (.reg .h) s

/-- `BIT 3,L` (R380). -/
def exec_bit_3_l (s : State) : Answer := bitTest 3 (.reg .l) s

/-- `BIT 3,(HL)` (R380). -/
def exec_bit_3_atHl (s : State) : Answer := bitTest 3 .atHl s

/-- `BIT 3,A` (R380). -/
def exec_bit_3_a (s : State) : Answer := bitTest 3 (.reg .a) s

/-- `BIT 4,B` (R380). -/
def exec_bit_4_b (s : State) : Answer := bitTest 4 (.reg .b) s

/-- `BIT 4,C` (R380). -/
def exec_bit_4_c (s : State) : Answer := bitTest 4 (.reg .c) s

/-- `BIT 4,D` (R380). -/
def exec_bit_4_d (s : State) : Answer := bitTest 4 (.reg .d) s

/-- `BIT 4,E` (R380). -/
def exec_bit_4_e (s : State) : Answer := bitTest 4 (.reg .e) s

/-- `BIT 4,H` (R380). -/
def exec_bit_4_h (s : State) : Answer := bitTest 4 (.reg .h) s

/-- `BIT 4,L` (R380). -/
def exec_bit_4_l (s : State) : Answer := bitTest 4 (.reg .l) s

/-- `BIT 4,(HL)` (R380). -/
def exec_bit_4_atHl (s : State) : Answer := bitTest 4 .atHl s

/-- `BIT 4,A` (R380). -/
def exec_bit_4_a (s : State) : Answer := bitTest 4 (.reg .a) s

/-- `BIT 5,B` (R380). -/
def exec_bit_5_b (s : State) : Answer := bitTest 5 (.reg .b) s

/-- `BIT 5,C` (R380). -/
def exec_bit_5_c (s : State) : Answer := bitTest 5 (.reg .c) s

/-- `BIT 5,D` (R380). -/
def exec_bit_5_d (s : State) : Answer := bitTest 5 (.reg .d) s

/-- `BIT 5,E` (R380). -/
def exec_bit_5_e (s : State) : Answer := bitTest 5 (.reg .e) s

/-- `BIT 5,H` (R380). -/
def exec_bit_5_h (s : State) : Answer := bitTest 5 (.reg .h) s

/-- `BIT 5,L` (R380). -/
def exec_bit_5_l (s : State) : Answer := bitTest 5 (.reg .l) s

/-- `BIT 5,(HL)` (R380). -/
def exec_bit_5_atHl (s : State) : Answer := bitTest 5 .atHl s

/-- `BIT 5,A` (R380). -/
def exec_bit_5_a (s : State) : Answer := bitTest 5 (.reg .a) s

/-- `BIT 6,B` (R380). -/
def exec_bit_6_b (s : State) : Answer := bitTest 6 (.reg .b) s

/-- `BIT 6,C` (R380). -/
def exec_bit_6_c (s : State) : Answer := bitTest 6 (.reg .c) s

/-- `BIT 6,D` (R380). -/
def exec_bit_6_d (s : State) : Answer := bitTest 6 (.reg .d) s

/-- `BIT 6,E` (R380). -/
def exec_bit_6_e (s : State) : Answer := bitTest 6 (.reg .e) s

/-- `BIT 6,H` (R380). -/
def exec_bit_6_h (s : State) : Answer := bitTest 6 (.reg .h) s

/-- `BIT 6,L` (R380). -/
def exec_bit_6_l (s : State) : Answer := bitTest 6 (.reg .l) s

/-- `BIT 6,(HL)` (R380). -/
def exec_bit_6_atHl (s : State) : Answer := bitTest 6 .atHl s

/-- `BIT 6,A` (R380). -/
def exec_bit_6_a (s : State) : Answer := bitTest 6 (.reg .a) s

/-- `BIT 7,B` (R380). -/
def exec_bit_7_b (s : State) : Answer := bitTest 7 (.reg .b) s

/-- `BIT 7,C` (R380). -/
def exec_bit_7_c (s : State) : Answer := bitTest 7 (.reg .c) s

/-- `BIT 7,D` (R380). -/
def exec_bit_7_d (s : State) : Answer := bitTest 7 (.reg .d) s

/-- `BIT 7,E` (R380). -/
def exec_bit_7_e (s : State) : Answer := bitTest 7 (.reg .e) s

/-- `BIT 7,H` (R380). -/
def exec_bit_7_h (s : State) : Answer := bitTest 7 (.reg .h) s

/-- `BIT 7,L` (R380). -/
def exec_bit_7_l (s : State) : Answer := bitTest 7 (.reg .l) s

/-- `BIT 7,(HL)` (R380). -/
def exec_bit_7_atHl (s : State) : Answer := bitTest 7 .atHl s

/-- `BIT 7,A` (R380). -/
def exec_bit_7_a (s : State) : Answer := bitTest 7 (.reg .a) s

/-- `RES 0,B` (R381). -/
def exec_res_0_b (s : State) : Answer := bitReset 0 (.reg .b) s

/-- `RES 0,C` (R381). -/
def exec_res_0_c (s : State) : Answer := bitReset 0 (.reg .c) s

/-- `RES 0,D` (R381). -/
def exec_res_0_d (s : State) : Answer := bitReset 0 (.reg .d) s

/-- `RES 0,E` (R381). -/
def exec_res_0_e (s : State) : Answer := bitReset 0 (.reg .e) s

/-- `RES 0,H` (R381). -/
def exec_res_0_h (s : State) : Answer := bitReset 0 (.reg .h) s

/-- `RES 0,L` (R381). -/
def exec_res_0_l (s : State) : Answer := bitReset 0 (.reg .l) s

/-- `RES 0,(HL)` (R381). -/
def exec_res_0_atHl (s : State) : Answer := bitReset 0 .atHl s

/-- `RES 0,A` (R381). -/
def exec_res_0_a (s : State) : Answer := bitReset 0 (.reg .a) s

/-- `RES 1,B` (R381). -/
def exec_res_1_b (s : State) : Answer := bitReset 1 (.reg .b) s

/-- `RES 1,C` (R381). -/
def exec_res_1_c (s : State) : Answer := bitReset 1 (.reg .c) s

/-- `RES 1,D` (R381). -/
def exec_res_1_d (s : State) : Answer := bitReset 1 (.reg .d) s

/-- `RES 1,E` (R381). -/
def exec_res_1_e (s : State) : Answer := bitReset 1 (.reg .e) s

/-- `RES 1,H` (R381). -/
def exec_res_1_h (s : State) : Answer := bitReset 1 (.reg .h) s

/-- `RES 1,L` (R381). -/
def exec_res_1_l (s : State) : Answer := bitReset 1 (.reg .l) s

/-- `RES 1,(HL)` (R381). -/
def exec_res_1_atHl (s : State) : Answer := bitReset 1 .atHl s

/-- `RES 1,A` (R381). -/
def exec_res_1_a (s : State) : Answer := bitReset 1 (.reg .a) s

/-- `RES 2,B` (R381). -/
def exec_res_2_b (s : State) : Answer := bitReset 2 (.reg .b) s

/-- `RES 2,C` (R381). -/
def exec_res_2_c (s : State) : Answer := bitReset 2 (.reg .c) s

/-- `RES 2,D` (R381). -/
def exec_res_2_d (s : State) : Answer := bitReset 2 (.reg .d) s

/-- `RES 2,E` (R381). -/
def exec_res_2_e (s : State) : Answer := bitReset 2 (.reg .e) s

/-- `RES 2,H` (R381). -/
def exec_res_2_h (s : State) : Answer := bitReset 2 (.reg .h) s

/-- `RES 2,L` (R381). -/
def exec_res_2_l (s : State) : Answer := bitReset 2 (.reg .l) s

/-- `RES 2,(HL)` (R381). -/
def exec_res_2_atHl (s : State) : Answer := bitReset 2 .atHl s

/-- `RES 2,A` (R381). -/
def exec_res_2_a (s : State) : Answer := bitReset 2 (.reg .a) s

/-- `RES 3,B` (R381). -/
def exec_res_3_b (s : State) : Answer := bitReset 3 (.reg .b) s

/-- `RES 3,C` (R381). -/
def exec_res_3_c (s : State) : Answer := bitReset 3 (.reg .c) s

/-- `RES 3,D` (R381). -/
def exec_res_3_d (s : State) : Answer := bitReset 3 (.reg .d) s

/-- `RES 3,E` (R381). -/
def exec_res_3_e (s : State) : Answer := bitReset 3 (.reg .e) s

/-- `RES 3,H` (R381). -/
def exec_res_3_h (s : State) : Answer := bitReset 3 (.reg .h) s

/-- `RES 3,L` (R381). -/
def exec_res_3_l (s : State) : Answer := bitReset 3 (.reg .l) s

/-- `RES 3,(HL)` (R381). -/
def exec_res_3_atHl (s : State) : Answer := bitReset 3 .atHl s

/-- `RES 3,A` (R381). -/
def exec_res_3_a (s : State) : Answer := bitReset 3 (.reg .a) s

/-- `RES 4,B` (R381). -/
def exec_res_4_b (s : State) : Answer := bitReset 4 (.reg .b) s

/-- `RES 4,C` (R381). -/
def exec_res_4_c (s : State) : Answer := bitReset 4 (.reg .c) s

/-- `RES 4,D` (R381). -/
def exec_res_4_d (s : State) : Answer := bitReset 4 (.reg .d) s

/-- `RES 4,E` (R381). -/
def exec_res_4_e (s : State) : Answer := bitReset 4 (.reg .e) s

/-- `RES 4,H` (R381). -/
def exec_res_4_h (s : State) : Answer := bitReset 4 (.reg .h) s

/-- `RES 4,L` (R381). -/
def exec_res_4_l (s : State) : Answer := bitReset 4 (.reg .l) s

/-- `RES 4,(HL)` (R381). -/
def exec_res_4_atHl (s : State) : Answer := bitReset 4 .atHl s

/-- `RES 4,A` (R381). -/
def exec_res_4_a (s : State) : Answer := bitReset 4 (.reg .a) s

/-- `RES 5,B` (R381). -/
def exec_res_5_b (s : State) : Answer := bitReset 5 (.reg .b) s

/-- `RES 5,C` (R381). -/
def exec_res_5_c (s : State) : Answer := bitReset 5 (.reg .c) s

/-- `RES 5,D` (R381). -/
def exec_res_5_d (s : State) : Answer := bitReset 5 (.reg .d) s

/-- `RES 5,E` (R381). -/
def exec_res_5_e (s : State) : Answer := bitReset 5 (.reg .e) s

/-- `RES 5,H` (R381). -/
def exec_res_5_h (s : State) : Answer := bitReset 5 (.reg .h) s

/-- `RES 5,L` (R381). -/
def exec_res_5_l (s : State) : Answer := bitReset 5 (.reg .l) s

/-- `RES 5,(HL)` (R381). -/
def exec_res_5_atHl (s : State) : Answer := bitReset 5 .atHl s

/-- `RES 5,A` (R381). -/
def exec_res_5_a (s : State) : Answer := bitReset 5 (.reg .a) s

/-- `RES 6,B` (R381). -/
def exec_res_6_b (s : State) : Answer := bitReset 6 (.reg .b) s

/-- `RES 6,C` (R381). -/
def exec_res_6_c (s : State) : Answer := bitReset 6 (.reg .c) s

/-- `RES 6,D` (R381). -/
def exec_res_6_d (s : State) : Answer := bitReset 6 (.reg .d) s

/-- `RES 6,E` (R381). -/
def exec_res_6_e (s : State) : Answer := bitReset 6 (.reg .e) s

/-- `RES 6,H` (R381). -/
def exec_res_6_h (s : State) : Answer := bitReset 6 (.reg .h) s

/-- `RES 6,L` (R381). -/
def exec_res_6_l (s : State) : Answer := bitReset 6 (.reg .l) s

/-- `RES 6,(HL)` (R381). -/
def exec_res_6_atHl (s : State) : Answer := bitReset 6 .atHl s

/-- `RES 6,A` (R381). -/
def exec_res_6_a (s : State) : Answer := bitReset 6 (.reg .a) s

/-- `RES 7,B` (R381). -/
def exec_res_7_b (s : State) : Answer := bitReset 7 (.reg .b) s

/-- `RES 7,C` (R381). -/
def exec_res_7_c (s : State) : Answer := bitReset 7 (.reg .c) s

/-- `RES 7,D` (R381). -/
def exec_res_7_d (s : State) : Answer := bitReset 7 (.reg .d) s

/-- `RES 7,E` (R381). -/
def exec_res_7_e (s : State) : Answer := bitReset 7 (.reg .e) s

/-- `RES 7,H` (R381). -/
def exec_res_7_h (s : State) : Answer := bitReset 7 (.reg .h) s

/-- `RES 7,L` (R381). -/
def exec_res_7_l (s : State) : Answer := bitReset 7 (.reg .l) s

/-- `RES 7,(HL)` (R381). -/
def exec_res_7_atHl (s : State) : Answer := bitReset 7 .atHl s

/-- `RES 7,A` (R381). -/
def exec_res_7_a (s : State) : Answer := bitReset 7 (.reg .a) s

/-- `SET 0,B` (R382). -/
def exec_set_0_b (s : State) : Answer := bitSet 0 (.reg .b) s

/-- `SET 0,C` (R382). -/
def exec_set_0_c (s : State) : Answer := bitSet 0 (.reg .c) s

/-- `SET 0,D` (R382). -/
def exec_set_0_d (s : State) : Answer := bitSet 0 (.reg .d) s

/-- `SET 0,E` (R382). -/
def exec_set_0_e (s : State) : Answer := bitSet 0 (.reg .e) s

/-- `SET 0,H` (R382). -/
def exec_set_0_h (s : State) : Answer := bitSet 0 (.reg .h) s

/-- `SET 0,L` (R382). -/
def exec_set_0_l (s : State) : Answer := bitSet 0 (.reg .l) s

/-- `SET 0,(HL)` (R382). -/
def exec_set_0_atHl (s : State) : Answer := bitSet 0 .atHl s

/-- `SET 0,A` (R382). -/
def exec_set_0_a (s : State) : Answer := bitSet 0 (.reg .a) s

/-- `SET 1,B` (R382). -/
def exec_set_1_b (s : State) : Answer := bitSet 1 (.reg .b) s

/-- `SET 1,C` (R382). -/
def exec_set_1_c (s : State) : Answer := bitSet 1 (.reg .c) s

/-- `SET 1,D` (R382). -/
def exec_set_1_d (s : State) : Answer := bitSet 1 (.reg .d) s

/-- `SET 1,E` (R382). -/
def exec_set_1_e (s : State) : Answer := bitSet 1 (.reg .e) s

/-- `SET 1,H` (R382). -/
def exec_set_1_h (s : State) : Answer := bitSet 1 (.reg .h) s

/-- `SET 1,L` (R382). -/
def exec_set_1_l (s : State) : Answer := bitSet 1 (.reg .l) s

/-- `SET 1,(HL)` (R382). -/
def exec_set_1_atHl (s : State) : Answer := bitSet 1 .atHl s

/-- `SET 1,A` (R382). -/
def exec_set_1_a (s : State) : Answer := bitSet 1 (.reg .a) s

/-- `SET 2,B` (R382). -/
def exec_set_2_b (s : State) : Answer := bitSet 2 (.reg .b) s

/-- `SET 2,C` (R382). -/
def exec_set_2_c (s : State) : Answer := bitSet 2 (.reg .c) s

/-- `SET 2,D` (R382). -/
def exec_set_2_d (s : State) : Answer := bitSet 2 (.reg .d) s

/-- `SET 2,E` (R382). -/
def exec_set_2_e (s : State) : Answer := bitSet 2 (.reg .e) s

/-- `SET 2,H` (R382). -/
def exec_set_2_h (s : State) : Answer := bitSet 2 (.reg .h) s

/-- `SET 2,L` (R382). -/
def exec_set_2_l (s : State) : Answer := bitSet 2 (.reg .l) s

/-- `SET 2,(HL)` (R382). -/
def exec_set_2_atHl (s : State) : Answer := bitSet 2 .atHl s

/-- `SET 2,A` (R382). -/
def exec_set_2_a (s : State) : Answer := bitSet 2 (.reg .a) s

/-- `SET 3,B` (R382). -/
def exec_set_3_b (s : State) : Answer := bitSet 3 (.reg .b) s

/-- `SET 3,C` (R382). -/
def exec_set_3_c (s : State) : Answer := bitSet 3 (.reg .c) s

/-- `SET 3,D` (R382). -/
def exec_set_3_d (s : State) : Answer := bitSet 3 (.reg .d) s

/-- `SET 3,E` (R382). -/
def exec_set_3_e (s : State) : Answer := bitSet 3 (.reg .e) s

/-- `SET 3,H` (R382). -/
def exec_set_3_h (s : State) : Answer := bitSet 3 (.reg .h) s

/-- `SET 3,L` (R382). -/
def exec_set_3_l (s : State) : Answer := bitSet 3 (.reg .l) s

/-- `SET 3,(HL)` (R382). -/
def exec_set_3_atHl (s : State) : Answer := bitSet 3 .atHl s

/-- `SET 3,A` (R382). -/
def exec_set_3_a (s : State) : Answer := bitSet 3 (.reg .a) s

/-- `SET 4,B` (R382). -/
def exec_set_4_b (s : State) : Answer := bitSet 4 (.reg .b) s

/-- `SET 4,C` (R382). -/
def exec_set_4_c (s : State) : Answer := bitSet 4 (.reg .c) s

/-- `SET 4,D` (R382). -/
def exec_set_4_d (s : State) : Answer := bitSet 4 (.reg .d) s

/-- `SET 4,E` (R382). -/
def exec_set_4_e (s : State) : Answer := bitSet 4 (.reg .e) s

/-- `SET 4,H` (R382). -/
def exec_set_4_h (s : State) : Answer := bitSet 4 (.reg .h) s

/-- `SET 4,L` (R382). -/
def exec_set_4_l (s : State) : Answer := bitSet 4 (.reg .l) s

/-- `SET 4,(HL)` (R382). -/
def exec_set_4_atHl (s : State) : Answer := bitSet 4 .atHl s

/-- `SET 4,A` (R382). -/
def exec_set_4_a (s : State) : Answer := bitSet 4 (.reg .a) s

/-- `SET 5,B` (R382). -/
def exec_set_5_b (s : State) : Answer := bitSet 5 (.reg .b) s

/-- `SET 5,C` (R382). -/
def exec_set_5_c (s : State) : Answer := bitSet 5 (.reg .c) s

/-- `SET 5,D` (R382). -/
def exec_set_5_d (s : State) : Answer := bitSet 5 (.reg .d) s

/-- `SET 5,E` (R382). -/
def exec_set_5_e (s : State) : Answer := bitSet 5 (.reg .e) s

/-- `SET 5,H` (R382). -/
def exec_set_5_h (s : State) : Answer := bitSet 5 (.reg .h) s

/-- `SET 5,L` (R382). -/
def exec_set_5_l (s : State) : Answer := bitSet 5 (.reg .l) s

/-- `SET 5,(HL)` (R382). -/
def exec_set_5_atHl (s : State) : Answer := bitSet 5 .atHl s

/-- `SET 5,A` (R382). -/
def exec_set_5_a (s : State) : Answer := bitSet 5 (.reg .a) s

/-- `SET 6,B` (R382). -/
def exec_set_6_b (s : State) : Answer := bitSet 6 (.reg .b) s

/-- `SET 6,C` (R382). -/
def exec_set_6_c (s : State) : Answer := bitSet 6 (.reg .c) s

/-- `SET 6,D` (R382). -/
def exec_set_6_d (s : State) : Answer := bitSet 6 (.reg .d) s

/-- `SET 6,E` (R382). -/
def exec_set_6_e (s : State) : Answer := bitSet 6 (.reg .e) s

/-- `SET 6,H` (R382). -/
def exec_set_6_h (s : State) : Answer := bitSet 6 (.reg .h) s

/-- `SET 6,L` (R382). -/
def exec_set_6_l (s : State) : Answer := bitSet 6 (.reg .l) s

/-- `SET 6,(HL)` (R382). -/
def exec_set_6_atHl (s : State) : Answer := bitSet 6 .atHl s

/-- `SET 6,A` (R382). -/
def exec_set_6_a (s : State) : Answer := bitSet 6 (.reg .a) s

/-- `SET 7,B` (R382). -/
def exec_set_7_b (s : State) : Answer := bitSet 7 (.reg .b) s

/-- `SET 7,C` (R382). -/
def exec_set_7_c (s : State) : Answer := bitSet 7 (.reg .c) s

/-- `SET 7,D` (R382). -/
def exec_set_7_d (s : State) : Answer := bitSet 7 (.reg .d) s

/-- `SET 7,E` (R382). -/
def exec_set_7_e (s : State) : Answer := bitSet 7 (.reg .e) s

/-- `SET 7,H` (R382). -/
def exec_set_7_h (s : State) : Answer := bitSet 7 (.reg .h) s

/-- `SET 7,L` (R382). -/
def exec_set_7_l (s : State) : Answer := bitSet 7 (.reg .l) s

/-- `SET 7,(HL)` (R382). -/
def exec_set_7_atHl (s : State) : Answer := bitSet 7 .atHl s

/-- `SET 7,A` (R382). -/
def exec_set_7_a (s : State) : Answer := bitSet 7 (.reg .a) s

end Sys2Proof.Machine
end

