-- ==== Sys2Proof/Machine/Control.lean ====
section
/-! DEFINITION. Control transfer (45_control.md R300 to R312). PC is already past the instruction (R300, R304). -/

namespace Sys2Proof.Machine

/-- `JP cc,nn` (R302): 16 T-cycles taken, 12 not taken. -/
def jumpIf (cc : Cond) (nn : Word) (s : State) : Answer :=
  if cc.holds s.flags then finish 16 { s with pc := nn } else finish 12 s

/-- The target of a relative jump (R304). -/
def State.relative (s : State) (e : Byte) : Word := s.pc + e.signExtend 16

/-- `JR cc,e` (R305): 12 T-cycles taken, 8 not taken. -/
def jumpRelIf (cc : Cond) (e : Byte) (s : State) : Answer :=
  if cc.holds s.flags then finish 12 { s with pc := s.relative e } else finish 8 s

/-- The call of an address: PC is pushed, then replaced (R306). -/
def State.call (s : State) (target : Word) : State := { s.push16 s.pc with pc := target }

/-- `CALL cc,nn` (R307): 24 T-cycles taken, 12 not taken. -/
def callIf (cc : Cond) (nn : Word) (s : State) : Answer :=
  if cc.holds s.flags then finish 24 (s.call nn) else finish 12 s

/-- The return: PC is popped (R308). -/
def State.return (s : State) : State := { s.popped with pc := s.popValue }

/-- `RET cc` (R309): 20 T-cycles taken, 8 not taken. -/
def returnIf (cc : Cond) (s : State) : Answer :=
  if cc.holds s.flags then finish 20 s.return else finish 8 s

/-- `RST t` (R312). -/
def restart (t : Word) (s : State) : Answer := finish 16 (s.call t)

/-- `JR e` (R304). -/
def exec_jr_e (e : Byte) (s : State) : Answer := finish 12 { s with pc := s.relative e }

/-- `JR NZ,e` (R305). -/
def exec_jr_nz_e (e : Byte) (s : State) : Answer := jumpRelIf .nz e s

/-- `JR Z,e` (R305). -/
def exec_jr_z_e (e : Byte) (s : State) : Answer := jumpRelIf .z e s

/-- `JR NC,e` (R305). -/
def exec_jr_nc_e (e : Byte) (s : State) : Answer := jumpRelIf .nc e s

/-- `JR C,e` (R305). -/
def exec_jr_c_e (e : Byte) (s : State) : Answer := jumpRelIf .c e s

/-- `RET NZ` (R309). -/
def exec_ret_nz (s : State) : Answer := returnIf .nz s

/-- `JP NZ,nn` (R302). -/
def exec_jp_nz_nn (nn : Word) (s : State) : Answer := jumpIf .nz nn s

/-- `JP nn` (R301). -/
def exec_jp_nn (nn : Word) (s : State) : Answer := finish 16 { s with pc := nn }

/-- `CALL NZ,nn` (R307). -/
def exec_call_nz_nn (nn : Word) (s : State) : Answer := callIf .nz nn s

/-- `RST 00h` (R312). -/
def exec_rst_00 (s : State) : Answer := restart 0x0000 s

/-- `RET Z` (R309). -/
def exec_ret_z (s : State) : Answer := returnIf .z s

/-- `RET` (R308). -/
def exec_ret (s : State) : Answer := finish 16 s.return

/-- `JP Z,nn` (R302). -/
def exec_jp_z_nn (nn : Word) (s : State) : Answer := jumpIf .z nn s

/-- `CALL Z,nn` (R307). -/
def exec_call_z_nn (nn : Word) (s : State) : Answer := callIf .z nn s

/-- `CALL nn` (R306). -/
def exec_call_nn (nn : Word) (s : State) : Answer := finish 24 (s.call nn)

/-- `RST 08h` (R312). -/
def exec_rst_08 (s : State) : Answer := restart 0x0008 s

/-- `RET NC` (R309). -/
def exec_ret_nc (s : State) : Answer := returnIf .nc s

/-- `JP NC,nn` (R302). -/
def exec_jp_nc_nn (nn : Word) (s : State) : Answer := jumpIf .nc nn s

/-- `CALL NC,nn` (R307). -/
def exec_call_nc_nn (nn : Word) (s : State) : Answer := callIf .nc nn s

/-- `RST 10h` (R312). -/
def exec_rst_10 (s : State) : Answer := restart 0x0010 s

/-- `RET C` (R309). -/
def exec_ret_c (s : State) : Answer := returnIf .c s

/-- `JP C,nn` (R302). -/
def exec_jp_c_nn (nn : Word) (s : State) : Answer := jumpIf .c nn s

/-- `CALL C,nn` (R307). -/
def exec_call_c_nn (nn : Word) (s : State) : Answer := callIf .c nn s

/-- `RST 18h` (R312). -/
def exec_rst_18 (s : State) : Answer := restart 0x0018 s

/-- `RST 20h` (R312). -/
def exec_rst_20 (s : State) : Answer := restart 0x0020 s

/-- `JP HL` (R303). -/
def exec_jp_hl (s : State) : Answer := finish 4 { s with pc := s.hl }

/-- `RST 28h` (R312). -/
def exec_rst_28 (s : State) : Answer := restart 0x0028 s

/-- `RST 30h` (R312). -/
def exec_rst_30 (s : State) : Answer := restart 0x0030 s

/-- `RST 38h` (R312). -/
def exec_rst_38 (s : State) : Answer := restart 0x0038 s

end Sys2Proof.Machine
end

