-- ==== Sys2Proof/Machine/Load16.lean ====
section
/-! DEFINITION. 16-bit loads and stack operations (41_load16_stack.md R230 to R237). -/

namespace Sys2Proof.Machine

/-- `LD rr,nn` (R230). -/
def loadPair (p : Pair) (nn : Word) (s : State) : Answer := finish 12 (s.setPair p nn)

/-- `PUSH rr` (R234). -/
def pushPair (p : StackPair) (s : State) : Answer := finish 16 (s.push16 (s.getStackPair p))

/-- `POP rr` and `POP AF` (R235, R237). -/
def popPair (p : StackPair) (s : State) : Answer := finish 12 (s.popped.setStackPair p s.popValue)

/-- `LD BC,nn` (R230). -/
def exec_ld_bc_nn (nn : Word) (s : State) : Answer := loadPair .bc nn s

/-- `LD (nn),SP` (R231). -/
def exec_ld_atNn_sp (nn : Word) (s : State) : Answer := finish 20 (s.memWrite16 nn s.sp)

/-- `LD DE,nn` (R230). -/
def exec_ld_de_nn (nn : Word) (s : State) : Answer := loadPair .de nn s

/-- `LD HL,nn` (R230). -/
def exec_ld_hl_nn (nn : Word) (s : State) : Answer := loadPair .hl nn s

/-- `LD SP,nn` (R230). -/
def exec_ld_sp_nn (nn : Word) (s : State) : Answer := loadPair .sp nn s

/-- `POP BC` (R235). -/
def exec_pop_bc (s : State) : Answer := popPair .bc s

/-- `PUSH BC` (R234). -/
def exec_push_bc (s : State) : Answer := pushPair .bc s

/-- `POP DE` (R235). -/
def exec_pop_de (s : State) : Answer := popPair .de s

/-- `PUSH DE` (R234). -/
def exec_push_de (s : State) : Answer := pushPair .de s

/-- `POP HL` (R235). -/
def exec_pop_hl (s : State) : Answer := popPair .hl s

/-- `PUSH HL` (R234). -/
def exec_push_hl (s : State) : Answer := pushPair .hl s

/-- `POP AF` (R237). -/
def exec_pop_af (s : State) : Answer := popPair .af s

/-- `PUSH AF` (R234). -/
def exec_push_af (s : State) : Answer := pushPair .af s

/-- `LD HL,SP+e` (R232). -/
def exec_ld_hl_spE (e : Byte) (s : State) : Answer :=
  finish 12 { s.setHl (addSp s.sp e).value with flags := (addSp s.sp e).flags }

/-- `LD SP,HL` (R233). -/
def exec_ld_sp_hl (s : State) : Answer := finish 8 { s with sp := s.hl }

end Sys2Proof.Machine
end

