-- ==== Sys2Proof/Machine/Load8.lean ====
section
/-! DEFINITION. 8-bit loads (40_load8.md R200 to R218). No flag is written. -/

namespace Sys2Proof.Machine

/-- `LD r,r'` (R200). -/
def loadReg (dst src : Reg8) (s : State) : Answer := finish 4 (s.setR dst (s.getR src))

/-- `LD r,n` (R201). -/
def loadImm (dst : Reg8) (n : Byte) (s : State) : Answer := finish 8 (s.setR dst n)

/-- `LD r,(HL)` (R202): the address is formed before the register is written. -/
def loadAtHl (dst : Reg8) (s : State) : Answer := finish 8 (s.setR dst (s.memRead s.hl))

/-- `LD (HL),r` (R203). -/
def storeAtHl (r : Reg8) (s : State) : Answer := finish 8 (s.memWrite s.hl (s.getR r))

/-- Loads A from an address, in t T-cycles (R205, R206, R209, R211, R213). -/
def loadA (t : Nat) (addr : Word) (s : State) : Answer := finish t (s.setR .a (s.memRead addr))

/-- Stores A at an address, in t T-cycles (R207, R208, R210, R212, R214). -/
def storeA (t : Nat) (addr : Word) (s : State) : Answer := finish t (s.memWrite addr (s.getR .a))

/-- `0xFF00 + n` (R211 to R214). -/
def highPage (n : Byte) : Word := 0xFF00 + n.setWidth 16

/-- Stores A at HL, then moves HL by `move` (R215, R217). -/
def storeAMove (move : Word) (s : State) : Answer :=
  let t := s.memWrite s.hl (s.getR .a)
  finish 8 (t.setHl (t.hl + move))

/-- Loads A from HL, then moves HL by `move` (R216, R218). -/
def loadAMove (move : Word) (s : State) : Answer :=
  let t := s.setR .a (s.memRead s.hl)
  finish 8 (t.setHl (t.hl + move))

/-- `LD (BC),A` (R207). -/
def exec_ld_atBc_a (s : State) : Answer := storeA 8 s.bc s

/-- `LD B,n` (R201). -/
def exec_ld_b_n (n : Byte) (s : State) : Answer := loadImm .b n s

/-- `LD A,(BC)` (R205). -/
def exec_ld_a_atBc (s : State) : Answer := loadA 8 s.bc s

/-- `LD C,n` (R201). -/
def exec_ld_c_n (n : Byte) (s : State) : Answer := loadImm .c n s

/-- `LD (DE),A` (R208). -/
def exec_ld_atDe_a (s : State) : Answer := storeA 8 s.de s

/-- `LD D,n` (R201). -/
def exec_ld_d_n (n : Byte) (s : State) : Answer := loadImm .d n s

/-- `LD A,(DE)` (R206). -/
def exec_ld_a_atDe (s : State) : Answer := loadA 8 s.de s

/-- `LD E,n` (R201). -/
def exec_ld_e_n (n : Byte) (s : State) : Answer := loadImm .e n s

/-- `LD (HL+),A` (R215). -/
def exec_ld_atHlInc_a (s : State) : Answer := storeAMove 1 s

/-- `LD H,n` (R201). -/
def exec_ld_h_n (n : Byte) (s : State) : Answer := loadImm .h n s

/-- `LD A,(HL+)` (R216). -/
def exec_ld_a_atHlInc (s : State) : Answer := loadAMove 1 s

/-- `LD L,n` (R201). -/
def exec_ld_l_n (n : Byte) (s : State) : Answer := loadImm .l n s

/-- `LD (HL-),A` (R217). -/
def exec_ld_atHlDec_a (s : State) : Answer := storeAMove (-1) s

/-- `LD (HL),n` (R204). -/
def exec_ld_atHl_n (n : Byte) (s : State) : Answer := finish 12 (s.memWrite s.hl n)

/-- `LD A,(HL-)` (R218). -/
def exec_ld_a_atHlDec (s : State) : Answer := loadAMove (-1) s

/-- `LD A,n` (R201). -/
def exec_ld_a_n (n : Byte) (s : State) : Answer := loadImm .a n s

/-- `LD B,B` (R200). -/
def exec_ld_b_b (s : State) : Answer := loadReg .b .b s

/-- `LD B,C` (R200). -/
def exec_ld_b_c (s : State) : Answer := loadReg .b .c s

/-- `LD B,D` (R200). -/
def exec_ld_b_d (s : State) : Answer := loadReg .b .d s

/-- `LD B,E` (R200). -/
def exec_ld_b_e (s : State) : Answer := loadReg .b .e s

/-- `LD B,H` (R200). -/
def exec_ld_b_h (s : State) : Answer := loadReg .b .h s

/-- `LD B,L` (R200). -/
def exec_ld_b_l (s : State) : Answer := loadReg .b .l s

/-- `LD B,(HL)` (R202). -/
def exec_ld_b_atHl (s : State) : Answer := loadAtHl .b s

/-- `LD B,A` (R200). -/
def exec_ld_b_a (s : State) : Answer := loadReg .b .a s

/-- `LD C,B` (R200). -/
def exec_ld_c_b (s : State) : Answer := loadReg .c .b s

/-- `LD C,C` (R200). -/
def exec_ld_c_c (s : State) : Answer := loadReg .c .c s

/-- `LD C,D` (R200). -/
def exec_ld_c_d (s : State) : Answer := loadReg .c .d s

/-- `LD C,E` (R200). -/
def exec_ld_c_e (s : State) : Answer := loadReg .c .e s

/-- `LD C,H` (R200). -/
def exec_ld_c_h (s : State) : Answer := loadReg .c .h s

/-- `LD C,L` (R200). -/
def exec_ld_c_l (s : State) : Answer := loadReg .c .l s

/-- `LD C,(HL)` (R202). -/
def exec_ld_c_atHl (s : State) : Answer := loadAtHl .c s

/-- `LD C,A` (R200). -/
def exec_ld_c_a (s : State) : Answer := loadReg .c .a s

/-- `LD D,B` (R200). -/
def exec_ld_d_b (s : State) : Answer := loadReg .d .b s

/-- `LD D,C` (R200). -/
def exec_ld_d_c (s : State) : Answer := loadReg .d .c s

/-- `LD D,D` (R200). -/
def exec_ld_d_d (s : State) : Answer := loadReg .d .d s

/-- `LD D,E` (R200). -/
def exec_ld_d_e (s : State) : Answer := loadReg .d .e s

/-- `LD D,H` (R200). -/
def exec_ld_d_h (s : State) : Answer := loadReg .d .h s

/-- `LD D,L` (R200). -/
def exec_ld_d_l (s : State) : Answer := loadReg .d .l s

/-- `LD D,(HL)` (R202). -/
def exec_ld_d_atHl (s : State) : Answer := loadAtHl .d s

/-- `LD D,A` (R200). -/
def exec_ld_d_a (s : State) : Answer := loadReg .d .a s

/-- `LD E,B` (R200). -/
def exec_ld_e_b (s : State) : Answer := loadReg .e .b s

/-- `LD E,C` (R200). -/
def exec_ld_e_c (s : State) : Answer := loadReg .e .c s

/-- `LD E,D` (R200). -/
def exec_ld_e_d (s : State) : Answer := loadReg .e .d s

/-- `LD E,E` (R200). -/
def exec_ld_e_e (s : State) : Answer := loadReg .e .e s

/-- `LD E,H` (R200). -/
def exec_ld_e_h (s : State) : Answer := loadReg .e .h s

/-- `LD E,L` (R200). -/
def exec_ld_e_l (s : State) : Answer := loadReg .e .l s

/-- `LD E,(HL)` (R202). -/
def exec_ld_e_atHl (s : State) : Answer := loadAtHl .e s

/-- `LD E,A` (R200). -/
def exec_ld_e_a (s : State) : Answer := loadReg .e .a s

/-- `LD H,B` (R200). -/
def exec_ld_h_b (s : State) : Answer := loadReg .h .b s

/-- `LD H,C` (R200). -/
def exec_ld_h_c (s : State) : Answer := loadReg .h .c s

/-- `LD H,D` (R200). -/
def exec_ld_h_d (s : State) : Answer := loadReg .h .d s

/-- `LD H,E` (R200). -/
def exec_ld_h_e (s : State) : Answer := loadReg .h .e s

/-- `LD H,H` (R200). -/
def exec_ld_h_h (s : State) : Answer := loadReg .h .h s

/-- `LD H,L` (R200). -/
def exec_ld_h_l (s : State) : Answer := loadReg .h .l s

/-- `LD H,(HL)` (R202). -/
def exec_ld_h_atHl (s : State) : Answer := loadAtHl .h s

/-- `LD H,A` (R200). -/
def exec_ld_h_a (s : State) : Answer := loadReg .h .a s

/-- `LD L,B` (R200). -/
def exec_ld_l_b (s : State) : Answer := loadReg .l .b s

/-- `LD L,C` (R200). -/
def exec_ld_l_c (s : State) : Answer := loadReg .l .c s

/-- `LD L,D` (R200). -/
def exec_ld_l_d (s : State) : Answer := loadReg .l .d s

/-- `LD L,E` (R200). -/
def exec_ld_l_e (s : State) : Answer := loadReg .l .e s

/-- `LD L,H` (R200). -/
def exec_ld_l_h (s : State) : Answer := loadReg .l .h s

/-- `LD L,L` (R200). -/
def exec_ld_l_l (s : State) : Answer := loadReg .l .l s

/-- `LD L,(HL)` (R202). -/
def exec_ld_l_atHl (s : State) : Answer := loadAtHl .l s

/-- `LD L,A` (R200). -/
def exec_ld_l_a (s : State) : Answer := loadReg .l .a s

/-- `LD (HL),B` (R203). -/
def exec_ld_atHl_b (s : State) : Answer := storeAtHl .b s

/-- `LD (HL),C` (R203). -/
def exec_ld_atHl_c (s : State) : Answer := storeAtHl .c s

/-- `LD (HL),D` (R203). -/
def exec_ld_atHl_d (s : State) : Answer := storeAtHl .d s

/-- `LD (HL),E` (R203). -/
def exec_ld_atHl_e (s : State) : Answer := storeAtHl .e s

/-- `LD (HL),H` (R203). -/
def exec_ld_atHl_h (s : State) : Answer := storeAtHl .h s

/-- `LD (HL),L` (R203). -/
def exec_ld_atHl_l (s : State) : Answer := storeAtHl .l s

/-- `LD (HL),A` (R203). -/
def exec_ld_atHl_a (s : State) : Answer := storeAtHl .a s

/-- `LD A,B` (R200). -/
def exec_ld_a_b (s : State) : Answer := loadReg .a .b s

/-- `LD A,C` (R200). -/
def exec_ld_a_c (s : State) : Answer := loadReg .a .c s

/-- `LD A,D` (R200). -/
def exec_ld_a_d (s : State) : Answer := loadReg .a .d s

/-- `LD A,E` (R200). -/
def exec_ld_a_e (s : State) : Answer := loadReg .a .e s

/-- `LD A,H` (R200). -/
def exec_ld_a_h (s : State) : Answer := loadReg .a .h s

/-- `LD A,L` (R200). -/
def exec_ld_a_l (s : State) : Answer := loadReg .a .l s

/-- `LD A,(HL)` (R202). -/
def exec_ld_a_atHl (s : State) : Answer := loadAtHl .a s

/-- `LD A,A` (R200). -/
def exec_ld_a_a (s : State) : Answer := loadReg .a .a s

/-- `LDH (n),A` (R212). -/
def exec_ldh_atN_a (n : Byte) (s : State) : Answer := storeA 12 (highPage n) s

/-- `LD (C),A` (R214). -/
def exec_ld_atC_a (s : State) : Answer := storeA 8 (highPage (s.getR .c)) s

/-- `LD (nn),A` (R210). -/
def exec_ld_atNn_a (nn : Word) (s : State) : Answer := storeA 16 nn s

/-- `LDH A,(n)` (R211). -/
def exec_ldh_a_atN (n : Byte) (s : State) : Answer := loadA 12 (highPage n) s

/-- `LD A,(C)` (R213). -/
def exec_ld_a_atC (s : State) : Answer := loadA 8 (highPage (s.getR .c)) s

/-- `LD A,(nn)` (R209). -/
def exec_ld_a_atNn (nn : Word) (s : State) : Answer := loadA 16 nn s

end Sys2Proof.Machine
end

