-- ==== Sys2Proof/Machine/Misc.lean ====
section
/-! DEFINITION. Miscellaneous and system instructions (46_misc.md R330 to R346), the 11 illegal opcodes among them. -/

namespace Sys2Proof.Machine

/-- No operation (R334); what the illegal opcodes do (R346). -/
def noOperation (s : State) : Answer := finish 4 s

/-- `NOP` (R334). -/
def exec_nop (s : State) : Answer := noOperation s

/-- `STOP` (R337): a halt that never sets the HALT bug; the second byte is ignored. -/
def exec_stop (_pad : Byte) (s : State) : Answer := finish 4 { s with halted := true }

/-- `DAA` (R330). -/
def exec_daa (s : State) : Answer :=
  finish 4 { s.setR .a (daa (s.getR .a) s.flags).value with flags := (daa (s.getR .a) s.flags).flags }

/-- `CPL` (R331). -/
def exec_cpl (s : State) : Answer :=
  finish 4 { s.setR .a (s.getR .a ^^^ 0xFF) with flags := { s.flags with n := true, h := true } }

/-- `SCF` (R332). -/
def exec_scf (s : State) : Answer := finish 4 { s with flags := { s.flags with n := false, h := false, c := true } }

/-- `CCF` (R333). -/
def exec_ccf (s : State) : Answer :=
  finish 4 { s with flags := { s.flags with n := false, h := false, c := !s.flags.c } }

/-- `HALT` (R336): HALT, or the HALT bug when IME is 0 and an enabled interrupt is pending. -/
def exec_halt (s : State) : Answer :=
  if s.ime then finish 4 { s with halted := true }
  else if s.pending = 0 then finish 4 { s with halted := true }
  else finish 4 { s with haltBugActive := true }

/-- Illegal opcode 0xD3 (R346). -/
def exec_illegal_d3 (s : State) : Answer := noOperation s

/-- `RETI` (R342): PC popped, IME set at once. -/
def exec_reti (s : State) : Answer := finish 16 s.returnFromInterrupt

/-- Illegal opcode 0xDB (R346). -/
def exec_illegal_db (s : State) : Answer := noOperation s

/-- Illegal opcode 0xDD (R346). -/
def exec_illegal_dd (s : State) : Answer := noOperation s

/-- Illegal opcode 0xE3 (R346). -/
def exec_illegal_e3 (s : State) : Answer := noOperation s

/-- Illegal opcode 0xE4 (R346). -/
def exec_illegal_e4 (s : State) : Answer := noOperation s

/-- Illegal opcode 0xEB (R346). -/
def exec_illegal_eb (s : State) : Answer := noOperation s

/-- Illegal opcode 0xEC (R346). -/
def exec_illegal_ec (s : State) : Answer := noOperation s

/-- Illegal opcode 0xED (R346). -/
def exec_illegal_ed (s : State) : Answer := noOperation s

/-- `DI` (R338): at once. -/
def exec_di (s : State) : Answer := finish 4 { s with ime := false, eiDelayPending := false }

/-- Illegal opcode 0xF4 (R346). -/
def exec_illegal_f4 (s : State) : Answer := noOperation s

/-- `EI` (R339): IME becomes 1 after the next instruction (R431). -/
def exec_ei (s : State) : Answer := finish 4 { s with eiDelayPending := true }

/-- Illegal opcode 0xFC (R346). -/
def exec_illegal_fc (s : State) : Answer := noOperation s

/-- Illegal opcode 0xFD (R346). -/
def exec_illegal_fd (s : State) : Answer := noOperation s

end Sys2Proof.Machine
end

