-- ==== Sys2Proof/Machine/RotateA.lean ====
section
/-! DEFINITION. Rotates of A (44_rotate_a.md R290 to R293): Z is always cleared. -/

namespace Sys2Proof.Machine

/-- A rotate of A (R290 to R293). -/
def rotateA (op : RotOp) (s : State) : Answer :=
  let o := op.applyA (s.getR .a) s.flags
  finish 4 { s.setR .a o.value with flags := o.flags }

/-- `RLCA` (R290). -/
def exec_rlca (s : State) : Answer := rotateA .rlc s

/-- `RRCA` (R291). -/
def exec_rrca (s : State) : Answer := rotateA .rrc s

/-- `RLA` (R292). -/
def exec_rla (s : State) : Answer := rotateA .rl s

/-- `RRA` (R293). -/
def exec_rra (s : State) : Answer := rotateA .rr s

end Sys2Proof.Machine
end

