-- ==== Sys2Proof/Machine/CpuStep.lean ====
section
/-! DEFINITION. The CPU step (60_exceptions.md R400 to R405): halted steps, fetch and execution, the EI promotion and
the end-of-step interrupt check; and how a program's bytes are put where the next fetch reads them. -/

namespace Sys2Proof.Machine

/-- The EI promotion (R431): `p` is `ei_delay_pending` as it stood before the instruction. -/
def State.promoteEi (s : State) (p : Bool) : State :=
  if p && s.eiDelayPending then { s with ime := true, eiDelayPending := false } else s

/-- The end-of-step check (R403): at most one interrupt is dispatched, for 20 more T-cycles. -/
def State.serviceInterrupt (s : State) : State :=
  if s.ime then
    match firstInterrupt s.pending with
    | none => s
    | some i => { s.dispatch i with tcycles := s.tcycles + 20 }
  else s

/-- What follows the instruction within a step (R400): the promotion, then the check. -/
def State.endOfStep (s : State) (p : Bool) : State := (s.promoteEi p).serviceInterrupt

/-- Whether an instruction counts as taken: what its condition says, and always for one that has none
(70_reset_and_hazards.md R620). -/
def branchTaken (i : Instr) (f : Flags) : Bool :=
  match i with
  | .jr_nz_e _ => Cond.holds .nz f
  | .jr_z_e _ => Cond.holds .z f
  | .jr_nc_e _ => Cond.holds .nc f
  | .jr_c_e _ => Cond.holds .c f
  | .jp_nz_nn _ => Cond.holds .nz f
  | .jp_z_nn _ => Cond.holds .z f
  | .jp_nc_nn _ => Cond.holds .nc f
  | .jp_c_nn _ => Cond.holds .c f
  | .call_nz_nn _ => Cond.holds .nz f
  | .call_z_nn _ => Cond.holds .z f
  | .call_nc_nn _ => Cond.holds .nc f
  | .call_c_nn _ => Cond.holds .c f
  | .ret_nz => Cond.holds .nz f
  | .ret_z => Cond.holds .z f
  | .ret_nc => Cond.holds .nc f
  | .ret_c => Cond.holds .c f
  | _ => true

/-- The entry of an instruction whose first two bytes are `op` and `second` (70_reset_and_hazards.md R620). -/
def cycleEntry (c : CycleTable) (op second : Byte) : CycleEntry :=
  if op = 0xCB then c.cb.get second.toFin else c.primary.get op.toFin

/-- The count an entry gives. -/
def cycleCount (e : CycleEntry) (taken : Bool) : Nat := if taken then e.taken else e.notTaken

/-- `t`, reached by the instruction fetched in `s`, with its T-cycles from `CYCLE_TABLE` (00_scope.md R11): the count of
R620 that its meaning wrote, unless another table is given. -/
def State.charge (s t : State) : State :=
  match s.params.cycleTable with
  | none => t
  | some c => { t with tcycles := cycleCount (cycleEntry c s.fetchBytes.1 s.fetchBytes.2.1) (branchTaken s.fetched s.flags) }

/-- Fetches, decodes and executes one instruction, then ends the step (R400). -/
def runInstruction (s : State) : Answer :=
  match exec s.fetched s.afterFetch with
  | .next t => .next ((s.charge t).endOfStep s.eiDelayPending)
  | .fault r => .fault r
  | .refused r => .refused r

/-- A step of a halted CPU (R402): 4 T-cycles while nothing is pending; with IME the dispatch and nothing else, 20
T-cycles; without IME it wakes and runs the instruction at PC. -/
def haltedStep (s : State) : Answer :=
  match firstInterrupt s.pending with
  | none => finish 4 s
  | some i =>
    if s.ime then finish 20 (State.dispatch { s with halted := false } i)
    else runInstruction { s with halted := false }

/-- `step_count <- step_count + 1` (R400, 10_state.md R47). -/
def State.countStep (s : State) : State := { s with stepCount := s.stepCount + 1 }

/-- `CPU.step()` (R400). The T-cycles it returns stand in `tcycles` (R404). -/
def cpuStep (s : State) : Answer :=
  if s.halted then haltedStep s.countStep else runInstruction s.countStep

/-! ### Putting a program in (log entry 5) -/

/-- Puts a byte where a fetch at `a` in the ROM window reads it, the image grown to hold it in whole 32 KiB. -/
def State.plantRom (s : State) (a : Nat) (b : Byte) : State :=
  let off := s.cart.mbc.mapRom a
  { s with cart := { s.cart with rom := s.cart.rom.write off b,
                                 romSize := max s.cart.romSize (0x8000 * (off / 0x8000 + 1)) } }

/-- Puts three bytes where the next instruction is fetched: in ROM or WRAM where PC points there, else in WRAM at
0xC000 with PC moved to it. The CPU is running and no HALT bug is pending. -/
def State.plant (s : State) (b0 b1 b2 : Byte) : State :=
  let t := { s with halted := false, haltBugActive := false }
  let a := s.pc.toNat
  if a + 2 < 0x8000 then ((t.plantRom a b0).plantRom (a + 1) b1).plantRom (a + 2) b2
  else if 0xC000 ≤ a ∧ a + 2 < 0xE000 then ((t.writeArray a b0).writeArray (a + 1) b1).writeArray (a + 2) b2
  else State.writeArray (State.writeArray (State.writeArray { t with pc := 0xC000 } 0xC000 b0) 0xC001 b1) 0xC002 b2

end Sys2Proof.Machine
end

