-- ==== Sys2Proof/Machine/Step.lean ====
section
/-! DEFINITION. The machine's transition: one system step (60_exceptions.md R401, 70_reset_and_hazards.md R645). -/

namespace Sys2Proof.Machine

/-- `SystemStep()` (R401): the queued input events, one CPU step, then Timer, PPU and APU by its T-cycles. -/
def step (s : State) : Host.Outcome State Fault Refusal :=
  match cpuStep s.applyInputs with
  | .next t => .next (t.advanceDevices t.tcycles)
  | .fault r => .fault r
  | .refused r => .refused r

/-- `s` with the instruction of an opcode-table word stored where `step` fetches next (log entries 5 and 6). -/
def State.withFetchWord (s : State) (nbits w : Nat) : State :=
  let b := tableBytes nbits w
  s.plant b.1 b.2.1 b.2.2

end Sys2Proof.Machine
end

