-- ==== Sys2Proof/Safety.lean ====
section
/-! DEFINITION. The terms claims use: what a coherent state is (70_reset_and_hazards.md R648 and the ranges of the
state tables), the instruction of each operand form, the bytes an instruction stores to, and which bytes a store can
reach. -/

namespace Sys2Proof.Machine

/-! ### Coherent states

R648: the internal invariants "are properties to prove of every reachable state". -/

/-- A frame of 144 lines of 160 entries (62_ppu.md R481). -/
abbrev FrameShape (f : List (List Shade)) : Prop := f.length = 144 ∧ f.all (fun row => decide (row.length = 160)) = true

/-- The bound of the LCD enable delay (62_ppu.md R481, R491). -/
def enableDelayBound : LcdEnableDelay → Nat
  | .none => 0
  | .four => 4

/-- The mode the PPU's registers call for: 0 while the LCD is off (R481, R490) or its enable delay runs (R491), else the
one of R485's table. -/
def Ppu.dueMode (p : Ppu) : PpuMode :=
  if p.lcdOn && decide (p.enableDelay = 0) then modeFor p.ly.toNat p.cycleCount else .hblank

/-- The PPU's part of a coherent state (62_ppu.md R480, R481, R490, R491; R648). -/
abbrev Ppu.Inv (params : Params) (p : Ppu) : Prop :=
  p.cycleCount < 456 ∧ p.ly.toNat < 154 ∧ p.mode = p.dueMode ∧
  p.enableDelay ≤ enableDelayBound params.lcdEnable ∧
  (p.lcdOn = false → p.ly = 0 ∧ p.cycleCount = 0 ∧ p.windowLine = 0 ∧ p.windowDrawn = false ∧ p.enableDelay = 0) ∧
  (p.enableDelay ≠ 0 → p.ly = 0 ∧ p.cycleCount = 0) ∧
  p.frozenPairBase ≤ 156 ∧
  FrameShape p.framebuffer ∧ FrameShape p.presentedFrame ∧ p.bgId.length = 160

/-- The timer's part (61_timer.md R460; R648). -/
abbrev Timer.Inv (params : Params) (t : Timer) : Prop :=
  t.reloadCountdown ≤ reloadDelay params.timerReload ∧ t.prevSignal = t.signal

/-- While the power is off every stored register bit is 0 and no channel is enabled (63_apu.md R544). -/
abbrev Apu.SilentWhenOff (a : Apu) : Prop :=
  a.power = false →
    a.fsCounter = 0 ∧ a.fsStep = 0 ∧ a.nr50 = 0 ∧ a.nr51 = 0 ∧ a.sweep.nr10 = 0 ∧
    a.ch1.duty = 0 ∧ a.ch1.nrx2 = 0 ∧ a.ch1.lengthEnable = false ∧ a.ch1.enabled = false ∧
    a.ch2.duty = 0 ∧ a.ch2.nrx2 = 0 ∧ a.ch2.lengthEnable = false ∧ a.ch2.enabled = false ∧
    a.ch3.dacOn = false ∧ a.ch3.volumeCode = 0 ∧ a.ch3.lengthEnable = false ∧ a.ch3.enabled = false ∧
    a.ch4.nr42 = 0 ∧ a.ch4.nr43 = 0 ∧ a.ch4.lengthEnable = false ∧ a.ch4.enabled = false

/-- The APU's part: the ranges of 63_apu.md R541, NR50's unused bits 7 and 3 (R540), the power gate (R544); R648. -/
abbrev Apu.Inv (a : Apu) : Prop :=
  a.fsCounter < 8192 ∧ a.fsStep < 8 ∧ a.nr50 &&& 0x88 = 0 ∧
  a.ch1.length ≤ 64 ∧ a.ch2.length ≤ 64 ∧ a.ch3.length ≤ 256 ∧ a.ch4.length ≤ 64 ∧
  a.SilentWhenOff

/-- No bank register holds the bank its write remaps: 0 becomes 1 on MBC1, MBC2 and MBC3 (64_cartridge.md R596 to
R598). -/
def Mbc.Inv : Mbc → Prop
  | .none => True
  | .mbc1 _ lo _ _ => lo ≠ 0
  | .mbc2 _ bank => bank ≠ 0
  | .mbc3 _ bank _ => bank ≠ 0
  | .mbc5 _ _ _ => True

/-- The sample rate is positive (00_scope.md R11), and the next sample is less than a sample away (log entry 13). -/
abbrev Audio.Inv (rate : SampleRate) (u : Audio) : Prop :=
  0 < rate.samples ∧ 0 < rate.seconds ∧ u.phase < samplePeriod rate

/-- A coherent state: every byte array in canonical form, the external RAM within its 128 KiB (10_state.md R42), and
every device's part. -/
abbrev State.Inv (s : State) : Prop :=
  s.ram.wf = true ∧ s.cart.rom.wf = true ∧ s.cart.xram.wf = true ∧ s.cart.ramSize ≤ 0x20000 ∧
  s.timer.Inv s.params ∧ s.ppu.Inv s.params ∧ s.apu.Inv ∧ s.audio.Inv s.params.sampleRate ∧ s.cart.mbc.Inv

/-! ### The instruction of each operand form (30_encoding.md R132, R140, R141) -/

/-- The two-operand ALU instructions (R250). -/
def aluInstr : AluOp → Src8 → Instr
  | .add, .reg .b => .add_a_b
  | .add, .reg .c => .add_a_c
  | .add, .reg .d => .add_a_d
  | .add, .reg .e => .add_a_e
  | .add, .reg .h => .add_a_h
  | .add, .reg .l => .add_a_l
  | .add, .reg .a => .add_a_a
  | .add, .atHl => .add_a_atHl
  | .add, .imm n => .add_a_n n
  | .adc, .reg .b => .adc_a_b
  | .adc, .reg .c => .adc_a_c
  | .adc, .reg .d => .adc_a_d
  | .adc, .reg .e => .adc_a_e
  | .adc, .reg .h => .adc_a_h
  | .adc, .reg .l => .adc_a_l
  | .adc, .reg .a => .adc_a_a
  | .adc, .atHl => .adc_a_atHl
  | .adc, .imm n => .adc_a_n n
  | .sub, .reg .b => .sub_b
  | .sub, .reg .c => .sub_c
  | .sub, .reg .d => .sub_d
  | .sub, .reg .e => .sub_e
  | .sub, .reg .h => .sub_h
  | .sub, .reg .l => .sub_l
  | .sub, .reg .a => .sub_a
  | .sub, .atHl => .sub_atHl
  | .sub, .imm n => .sub_n n
  | .sbc, .reg .b => .sbc_a_b
  | .sbc, .reg .c => .sbc_a_c
  | .sbc, .reg .d => .sbc_a_d
  | .sbc, .reg .e => .sbc_a_e
  | .sbc, .reg .h => .sbc_a_h
  | .sbc, .reg .l => .sbc_a_l
  | .sbc, .reg .a => .sbc_a_a
  | .sbc, .atHl => .sbc_a_atHl
  | .sbc, .imm n => .sbc_a_n n
  | .and, .reg .b => .and_b
  | .and, .reg .c => .and_c
  | .and, .reg .d => .and_d
  | .and, .reg .e => .and_e
  | .and, .reg .h => .and_h
  | .and, .reg .l => .and_l
  | .and, .reg .a => .and_a
  | .and, .atHl => .and_atHl
  | .and, .imm n => .and_n n
  | .xor, .reg .b => .xor_b
  | .xor, .reg .c => .xor_c
  | .xor, .reg .d => .xor_d
  | .xor, .reg .e => .xor_e
  | .xor, .reg .h => .xor_h
  | .xor, .reg .l => .xor_l
  | .xor, .reg .a => .xor_a
  | .xor, .atHl => .xor_atHl
  | .xor, .imm n => .xor_n n
  | .or, .reg .b => .or_b
  | .or, .reg .c => .or_c
  | .or, .reg .d => .or_d
  | .or, .reg .e => .or_e
  | .or, .reg .h => .or_h
  | .or, .reg .l => .or_l
  | .or, .reg .a => .or_a
  | .or, .atHl => .or_atHl
  | .or, .imm n => .or_n n
  | .cp, .reg .b => .cp_b
  | .cp, .reg .c => .cp_c
  | .cp, .reg .d => .cp_d
  | .cp, .reg .e => .cp_e
  | .cp, .reg .h => .cp_h
  | .cp, .reg .l => .cp_l
  | .cp, .reg .a => .cp_a
  | .cp, .atHl => .cp_atHl
  | .cp, .imm n => .cp_n n

/-- `LD r,r'` (R200). -/
def ldInstr : Reg8 → Reg8 → Instr
  | .b, .b => .ld_b_b
  | .b, .c => .ld_b_c
  | .b, .d => .ld_b_d
  | .b, .e => .ld_b_e
  | .b, .h => .ld_b_h
  | .b, .l => .ld_b_l
  | .b, .a => .ld_b_a
  | .c, .b => .ld_c_b
  | .c, .c => .ld_c_c
  | .c, .d => .ld_c_d
  | .c, .e => .ld_c_e
  | .c, .h => .ld_c_h
  | .c, .l => .ld_c_l
  | .c, .a => .ld_c_a
  | .d, .b => .ld_d_b
  | .d, .c => .ld_d_c
  | .d, .d => .ld_d_d
  | .d, .e => .ld_d_e
  | .d, .h => .ld_d_h
  | .d, .l => .ld_d_l
  | .d, .a => .ld_d_a
  | .e, .b => .ld_e_b
  | .e, .c => .ld_e_c
  | .e, .d => .ld_e_d
  | .e, .e => .ld_e_e
  | .e, .h => .ld_e_h
  | .e, .l => .ld_e_l
  | .e, .a => .ld_e_a
  | .h, .b => .ld_h_b
  | .h, .c => .ld_h_c
  | .h, .d => .ld_h_d
  | .h, .e => .ld_h_e
  | .h, .h => .ld_h_h
  | .h, .l => .ld_h_l
  | .h, .a => .ld_h_a
  | .l, .b => .ld_l_b
  | .l, .c => .ld_l_c
  | .l, .d => .ld_l_d
  | .l, .e => .ld_l_e
  | .l, .h => .ld_l_h
  | .l, .l => .ld_l_l
  | .l, .a => .ld_l_a
  | .a, .b => .ld_a_b
  | .a, .c => .ld_a_c
  | .a, .d => .ld_a_d
  | .a, .e => .ld_a_e
  | .a, .h => .ld_a_h
  | .a, .l => .ld_a_l
  | .a, .a => .ld_a_a

/-- `LD r,n` (R201). -/
def ldImmInstr : Reg8 → Byte → Instr
  | .b, n => .ld_b_n n
  | .c, n => .ld_c_n n
  | .d, n => .ld_d_n n
  | .e, n => .ld_e_n n
  | .h, n => .ld_h_n n
  | .l, n => .ld_l_n n
  | .a, n => .ld_a_n n

/-- `LD r,(HL)` (R202). -/
def ldAtHlInstr : Reg8 → Instr
  | .b => .ld_b_atHl
  | .c => .ld_c_atHl
  | .d => .ld_d_atHl
  | .e => .ld_e_atHl
  | .h => .ld_h_atHl
  | .l => .ld_l_atHl
  | .a => .ld_a_atHl

/-- `LD (HL),r` (R203). -/
def stAtHlInstr : Reg8 → Instr
  | .b => .ld_atHl_b
  | .c => .ld_atHl_c
  | .d => .ld_atHl_d
  | .e => .ld_atHl_e
  | .h => .ld_atHl_h
  | .l => .ld_atHl_l
  | .a => .ld_atHl_a

/-- `INC r` (R259). -/
def incInstr : Reg8 → Instr
  | .b => .inc_b
  | .c => .inc_c
  | .d => .inc_d
  | .e => .inc_e
  | .h => .inc_h
  | .l => .inc_l
  | .a => .inc_a

/-- `DEC r` (R260). -/
def decInstr : Reg8 → Instr
  | .b => .dec_b
  | .c => .dec_c
  | .d => .dec_d
  | .e => .dec_e
  | .h => .dec_h
  | .l => .dec_l
  | .a => .dec_a

/-- `LD rr,nn` (R230). -/
def ldPairInstr : Pair → Word → Instr
  | .bc, nn => .ld_bc_nn nn
  | .de, nn => .ld_de_nn nn
  | .hl, nn => .ld_hl_nn nn
  | .sp, nn => .ld_sp_nn nn

/-- `ADD HL,rr` (R280). -/
def addHlInstr : Pair → Instr
  | .bc => .add_hl_bc
  | .de => .add_hl_de
  | .hl => .add_hl_hl
  | .sp => .add_hl_sp

/-- `INC rr` (R281). -/
def incPairInstr : Pair → Instr
  | .bc => .inc_bc
  | .de => .inc_de
  | .hl => .inc_hl
  | .sp => .inc_sp

/-- `DEC rr` (R283). -/
def decPairInstr : Pair → Instr
  | .bc => .dec_bc
  | .de => .dec_de
  | .hl => .dec_hl
  | .sp => .dec_sp

/-- `PUSH rr` (R234). -/
def pushInstr : StackPair → Instr
  | .bc => .push_bc
  | .de => .push_de
  | .hl => .push_hl
  | .af => .push_af

/-- `POP rr` (R235, R237). -/
def popInstr : StackPair → Instr
  | .bc => .pop_bc
  | .de => .pop_de
  | .hl => .pop_hl
  | .af => .pop_af

/-- `JP cc,nn` (R302). -/
def jpInstr : Cond → Word → Instr
  | .nz, nn => .jp_nz_nn nn
  | .z, nn => .jp_z_nn nn
  | .nc, nn => .jp_nc_nn nn
  | .c, nn => .jp_c_nn nn

/-- `JR cc,e` (R305). -/
def jrInstr : Cond → Byte → Instr
  | .nz, e => .jr_nz_e e
  | .z, e => .jr_z_e e
  | .nc, e => .jr_nc_e e
  | .c, e => .jr_c_e e

/-- `CALL cc,nn` (R307). -/
def callInstr : Cond → Word → Instr
  | .nz, nn => .call_nz_nn nn
  | .z, nn => .call_z_nn nn
  | .nc, nn => .call_nc_nn nn
  | .c, nn => .call_c_nn nn

/-- `RET cc` (R309). -/
def retInstr : Cond → Instr
  | .nz => .ret_nz
  | .z => .ret_z
  | .nc => .ret_nc
  | .c => .ret_c

/-- `RST t` with t = 8 * y (R312). -/
def rstInstr (y : Fin 8) : Instr :=
  match y.val with
  | 0 => .rst_00
  | 1 => .rst_08
  | 2 => .rst_10
  | 3 => .rst_18
  | 4 => .rst_20
  | 5 => .rst_28
  | 6 => .rst_30
  | _ => .rst_38

/-- The CB rotates and shifts (R360). -/
def rotInstr : RotOp → Target → Instr
  | .rlc, .reg .b => .rlc_b
  | .rlc, .reg .c => .rlc_c
  | .rlc, .reg .d => .rlc_d
  | .rlc, .reg .e => .rlc_e
  | .rlc, .reg .h => .rlc_h
  | .rlc, .reg .l => .rlc_l
  | .rlc, .atHl => .rlc_atHl
  | .rlc, .reg .a => .rlc_a
  | .rrc, .reg .b => .rrc_b
  | .rrc, .reg .c => .rrc_c
  | .rrc, .reg .d => .rrc_d
  | .rrc, .reg .e => .rrc_e
  | .rrc, .reg .h => .rrc_h
  | .rrc, .reg .l => .rrc_l
  | .rrc, .atHl => .rrc_atHl
  | .rrc, .reg .a => .rrc_a
  | .rl, .reg .b => .rl_b
  | .rl, .reg .c => .rl_c
  | .rl, .reg .d => .rl_d
  | .rl, .reg .e => .rl_e
  | .rl, .reg .h => .rl_h
  | .rl, .reg .l => .rl_l
  | .rl, .atHl => .rl_atHl
  | .rl, .reg .a => .rl_a
  | .rr, .reg .b => .rr_b
  | .rr, .reg .c => .rr_c
  | .rr, .reg .d => .rr_d
  | .rr, .reg .e => .rr_e
  | .rr, .reg .h => .rr_h
  | .rr, .reg .l => .rr_l
  | .rr, .atHl => .rr_atHl
  | .rr, .reg .a => .rr_a
  | .sla, .reg .b => .sla_b
  | .sla, .reg .c => .sla_c
  | .sla, .reg .d => .sla_d
  | .sla, .reg .e => .sla_e
  | .sla, .reg .h => .sla_h
  | .sla, .reg .l => .sla_l
  | .sla, .atHl => .sla_atHl
  | .sla, .reg .a => .sla_a
  | .sra, .reg .b => .sra_b
  | .sra, .reg .c => .sra_c
  | .sra, .reg .d => .sra_d
  | .sra, .reg .e => .sra_e
  | .sra, .reg .h => .sra_h
  | .sra, .reg .l => .sra_l
  | .sra, .atHl => .sra_atHl
  | .sra, .reg .a => .sra_a
  | .swap, .reg .b => .swap_b
  | .swap, .reg .c => .swap_c
  | .swap, .reg .d => .swap_d
  | .swap, .reg .e => .swap_e
  | .swap, .reg .h => .swap_h
  | .swap, .reg .l => .swap_l
  | .swap, .atHl => .swap_atHl
  | .swap, .reg .a => .swap_a
  | .srl, .reg .b => .srl_b
  | .srl, .reg .c => .srl_c
  | .srl, .reg .d => .srl_d
  | .srl, .reg .e => .srl_e
  | .srl, .reg .h => .srl_h
  | .srl, .reg .l => .srl_l
  | .srl, .atHl => .srl_atHl
  | .srl, .reg .a => .srl_a

/-- `BIT 0,t` (R380). -/
def bit0Instr : Target → Instr
  | .reg .b => .bit_0_b
  | .reg .c => .bit_0_c
  | .reg .d => .bit_0_d
  | .reg .e => .bit_0_e
  | .reg .h => .bit_0_h
  | .reg .l => .bit_0_l
  | .atHl => .bit_0_atHl
  | .reg .a => .bit_0_a

/-- `BIT 1,t` (R380). -/
def bit1Instr : Target → Instr
  | .reg .b => .bit_1_b
  | .reg .c => .bit_1_c
  | .reg .d => .bit_1_d
  | .reg .e => .bit_1_e
  | .reg .h => .bit_1_h
  | .reg .l => .bit_1_l
  | .atHl => .bit_1_atHl
  | .reg .a => .bit_1_a

/-- `BIT 2,t` (R380). -/
def bit2Instr : Target → Instr
  | .reg .b => .bit_2_b
  | .reg .c => .bit_2_c
  | .reg .d => .bit_2_d
  | .reg .e => .bit_2_e
  | .reg .h => .bit_2_h
  | .reg .l => .bit_2_l
  | .atHl => .bit_2_atHl
  | .reg .a => .bit_2_a

/-- `BIT 3,t` (R380). -/
def bit3Instr : Target → Instr
  | .reg .b => .bit_3_b
  | .reg .c => .bit_3_c
  | .reg .d => .bit_3_d
  | .reg .e => .bit_3_e
  | .reg .h => .bit_3_h
  | .reg .l => .bit_3_l
  | .atHl => .bit_3_atHl
  | .reg .a => .bit_3_a

/-- `BIT 4,t` (R380). -/
def bit4Instr : Target → Instr
  | .reg .b => .bit_4_b
  | .reg .c => .bit_4_c
  | .reg .d => .bit_4_d
  | .reg .e => .bit_4_e
  | .reg .h => .bit_4_h
  | .reg .l => .bit_4_l
  | .atHl => .bit_4_atHl
  | .reg .a => .bit_4_a

/-- `BIT 5,t` (R380). -/
def bit5Instr : Target → Instr
  | .reg .b => .bit_5_b
  | .reg .c => .bit_5_c
  | .reg .d => .bit_5_d
  | .reg .e => .bit_5_e
  | .reg .h => .bit_5_h
  | .reg .l => .bit_5_l
  | .atHl => .bit_5_atHl
  | .reg .a => .bit_5_a

/-- `BIT 6,t` (R380). -/
def bit6Instr : Target → Instr
  | .reg .b => .bit_6_b
  | .reg .c => .bit_6_c
  | .reg .d => .bit_6_d
  | .reg .e => .bit_6_e
  | .reg .h => .bit_6_h
  | .reg .l => .bit_6_l
  | .atHl => .bit_6_atHl
  | .reg .a => .bit_6_a

/-- `BIT 7,t` (R380). -/
def bit7Instr : Target → Instr
  | .reg .b => .bit_7_b
  | .reg .c => .bit_7_c
  | .reg .d => .bit_7_d
  | .reg .e => .bit_7_e
  | .reg .h => .bit_7_h
  | .reg .l => .bit_7_l
  | .atHl => .bit_7_atHl
  | .reg .a => .bit_7_a

/-- `BIT b,t` (R380). -/
def bitInstr (b : Fin 8) (t : Target) : Instr :=
  match b.val with
  | 0 => bit0Instr t
  | 1 => bit1Instr t
  | 2 => bit2Instr t
  | 3 => bit3Instr t
  | 4 => bit4Instr t
  | 5 => bit5Instr t
  | 6 => bit6Instr t
  | _ => bit7Instr t

/-- `RES 0,t` (R381). -/
def res0Instr : Target → Instr
  | .reg .b => .res_0_b
  | .reg .c => .res_0_c
  | .reg .d => .res_0_d
  | .reg .e => .res_0_e
  | .reg .h => .res_0_h
  | .reg .l => .res_0_l
  | .atHl => .res_0_atHl
  | .reg .a => .res_0_a

/-- `RES 1,t` (R381). -/
def res1Instr : Target → Instr
  | .reg .b => .res_1_b
  | .reg .c => .res_1_c
  | .reg .d => .res_1_d
  | .reg .e => .res_1_e
  | .reg .h => .res_1_h
  | .reg .l => .res_1_l
  | .atHl => .res_1_atHl
  | .reg .a => .res_1_a

/-- `RES 2,t` (R381). -/
def res2Instr : Target → Instr
  | .reg .b => .res_2_b
  | .reg .c => .res_2_c
  | .reg .d => .res_2_d
  | .reg .e => .res_2_e
  | .reg .h => .res_2_h
  | .reg .l => .res_2_l
  | .atHl => .res_2_atHl
  | .reg .a => .res_2_a

/-- `RES 3,t` (R381). -/
def res3Instr : Target → Instr
  | .reg .b => .res_3_b
  | .reg .c => .res_3_c
  | .reg .d => .res_3_d
  | .reg .e => .res_3_e
  | .reg .h => .res_3_h
  | .reg .l => .res_3_l
  | .atHl => .res_3_atHl
  | .reg .a => .res_3_a

/-- `RES 4,t` (R381). -/
def res4Instr : Target → Instr
  | .reg .b => .res_4_b
  | .reg .c => .res_4_c
  | .reg .d => .res_4_d
  | .reg .e => .res_4_e
  | .reg .h => .res_4_h
  | .reg .l => .res_4_l
  | .atHl => .res_4_atHl
  | .reg .a => .res_4_a

/-- `RES 5,t` (R381). -/
def res5Instr : Target → Instr
  | .reg .b => .res_5_b
  | .reg .c => .res_5_c
  | .reg .d => .res_5_d
  | .reg .e => .res_5_e
  | .reg .h => .res_5_h
  | .reg .l => .res_5_l
  | .atHl => .res_5_atHl
  | .reg .a => .res_5_a

/-- `RES 6,t` (R381). -/
def res6Instr : Target → Instr
  | .reg .b => .res_6_b
  | .reg .c => .res_6_c
  | .reg .d => .res_6_d
  | .reg .e => .res_6_e
  | .reg .h => .res_6_h
  | .reg .l => .res_6_l
  | .atHl => .res_6_atHl
  | .reg .a => .res_6_a

/-- `RES 7,t` (R381). -/
def res7Instr : Target → Instr
  | .reg .b => .res_7_b
  | .reg .c => .res_7_c
  | .reg .d => .res_7_d
  | .reg .e => .res_7_e
  | .reg .h => .res_7_h
  | .reg .l => .res_7_l
  | .atHl => .res_7_atHl
  | .reg .a => .res_7_a

/-- `RES b,t` (R381). -/
def resInstr (b : Fin 8) (t : Target) : Instr :=
  match b.val with
  | 0 => res0Instr t
  | 1 => res1Instr t
  | 2 => res2Instr t
  | 3 => res3Instr t
  | 4 => res4Instr t
  | 5 => res5Instr t
  | 6 => res6Instr t
  | _ => res7Instr t

/-- `SET 0,t` (R382). -/
def set0Instr : Target → Instr
  | .reg .b => .set_0_b
  | .reg .c => .set_0_c
  | .reg .d => .set_0_d
  | .reg .e => .set_0_e
  | .reg .h => .set_0_h
  | .reg .l => .set_0_l
  | .atHl => .set_0_atHl
  | .reg .a => .set_0_a

/-- `SET 1,t` (R382). -/
def set1Instr : Target → Instr
  | .reg .b => .set_1_b
  | .reg .c => .set_1_c
  | .reg .d => .set_1_d
  | .reg .e => .set_1_e
  | .reg .h => .set_1_h
  | .reg .l => .set_1_l
  | .atHl => .set_1_atHl
  | .reg .a => .set_1_a

/-- `SET 2,t` (R382). -/
def set2Instr : Target → Instr
  | .reg .b => .set_2_b
  | .reg .c => .set_2_c
  | .reg .d => .set_2_d
  | .reg .e => .set_2_e
  | .reg .h => .set_2_h
  | .reg .l => .set_2_l
  | .atHl => .set_2_atHl
  | .reg .a => .set_2_a

/-- `SET 3,t` (R382). -/
def set3Instr : Target → Instr
  | .reg .b => .set_3_b
  | .reg .c => .set_3_c
  | .reg .d => .set_3_d
  | .reg .e => .set_3_e
  | .reg .h => .set_3_h
  | .reg .l => .set_3_l
  | .atHl => .set_3_atHl
  | .reg .a => .set_3_a

/-- `SET 4,t` (R382). -/
def set4Instr : Target → Instr
  | .reg .b => .set_4_b
  | .reg .c => .set_4_c
  | .reg .d => .set_4_d
  | .reg .e => .set_4_e
  | .reg .h => .set_4_h
  | .reg .l => .set_4_l
  | .atHl => .set_4_atHl
  | .reg .a => .set_4_a

/-- `SET 5,t` (R382). -/
def set5Instr : Target → Instr
  | .reg .b => .set_5_b
  | .reg .c => .set_5_c
  | .reg .d => .set_5_d
  | .reg .e => .set_5_e
  | .reg .h => .set_5_h
  | .reg .l => .set_5_l
  | .atHl => .set_5_atHl
  | .reg .a => .set_5_a

/-- `SET 6,t` (R382). -/
def set6Instr : Target → Instr
  | .reg .b => .set_6_b
  | .reg .c => .set_6_c
  | .reg .d => .set_6_d
  | .reg .e => .set_6_e
  | .reg .h => .set_6_h
  | .reg .l => .set_6_l
  | .atHl => .set_6_atHl
  | .reg .a => .set_6_a

/-- `SET 7,t` (R382). -/
def set7Instr : Target → Instr
  | .reg .b => .set_7_b
  | .reg .c => .set_7_c
  | .reg .d => .set_7_d
  | .reg .e => .set_7_e
  | .reg .h => .set_7_h
  | .reg .l => .set_7_l
  | .atHl => .set_7_atHl
  | .reg .a => .set_7_a

/-- `SET b,t` (R382). -/
def setInstr (b : Fin 8) (t : Target) : Instr :=
  match b.val with
  | 0 => set0Instr t
  | 1 => set1Instr t
  | 2 => set2Instr t
  | 3 => set3Instr t
  | 4 => set4Instr t
  | 5 => set5Instr t
  | 6 => set6Instr t
  | _ => set7Instr t

/-- The 11 illegal opcodes (R142). -/
def illegalInstrs : List Instr :=
  [.illegal_d3, .illegal_db, .illegal_dd, .illegal_e3, .illegal_e4, .illegal_eb, .illegal_ec, .illegal_ed, .illegal_f4, .illegal_fc, .illegal_fd]

/-! ### What an instruction stores to -/

/-- The addresses an instruction stores a byte to, in order, each formed as its meaning forms it (40_load8.md,
41_load16_stack.md R231, R236, 42_alu8.md R261, R262, 45_control.md R306, R307, R312, 47_cb_shift.md R360). -/
def storeAddresses (i : Instr) (s : State) : List Word :=
  match i with
  | .ld_atHl_b => [s.hl]
  | .ld_atHl_c => [s.hl]
  | .ld_atHl_d => [s.hl]
  | .ld_atHl_e => [s.hl]
  | .ld_atHl_h => [s.hl]
  | .ld_atHl_l => [s.hl]
  | .ld_atHl_a => [s.hl]
  | .ld_atHl_n _ => [s.hl]
  | .ld_atHlInc_a => [s.hl]
  | .ld_atHlDec_a => [s.hl]
  | .ld_atBc_a => [s.bc]
  | .ld_atDe_a => [s.de]
  | .ld_atC_a => [highPage s.regs.c]
  | .inc_atHl => [s.hl]
  | .dec_atHl => [s.hl]
  | .ld_atNn_a nn => [nn]
  | .ldh_atN_a n => [highPage n]
  | .ld_atNn_sp nn => [nn, nn + 1]
  | .push_bc => [s.sp - 1, s.sp - 1 - 1]
  | .push_de => [s.sp - 1, s.sp - 1 - 1]
  | .push_hl => [s.sp - 1, s.sp - 1 - 1]
  | .push_af => [s.sp - 1, s.sp - 1 - 1]
  | .call_nn _ => [s.sp - 1, s.sp - 1 - 1]
  | .call_nz_nn _ => if Cond.holds .nz s.flags then [s.sp - 1, s.sp - 1 - 1] else []
  | .call_z_nn _ => if Cond.holds .z s.flags then [s.sp - 1, s.sp - 1 - 1] else []
  | .call_nc_nn _ => if Cond.holds .nc s.flags then [s.sp - 1, s.sp - 1 - 1] else []
  | .call_c_nn _ => if Cond.holds .c s.flags then [s.sp - 1, s.sp - 1 - 1] else []
  | .rst_00 => [s.sp - 1, s.sp - 1 - 1]
  | .rst_08 => [s.sp - 1, s.sp - 1 - 1]
  | .rst_10 => [s.sp - 1, s.sp - 1 - 1]
  | .rst_18 => [s.sp - 1, s.sp - 1 - 1]
  | .rst_20 => [s.sp - 1, s.sp - 1 - 1]
  | .rst_28 => [s.sp - 1, s.sp - 1 - 1]
  | .rst_30 => [s.sp - 1, s.sp - 1 - 1]
  | .rst_38 => [s.sp - 1, s.sp - 1 - 1]
  | .rlc_atHl => [s.hl]
  | .rrc_atHl => [s.hl]
  | .rl_atHl => [s.hl]
  | .rr_atHl => [s.hl]
  | .sla_atHl => [s.hl]
  | .sra_atHl => [s.hl]
  | .swap_atHl => [s.hl]
  | .srl_atHl => [s.hl]
  | .res_0_atHl => [s.hl]
  | .set_0_atHl => [s.hl]
  | .res_1_atHl => [s.hl]
  | .set_1_atHl => [s.hl]
  | .res_2_atHl => [s.hl]
  | .set_2_atHl => [s.hl]
  | .res_3_atHl => [s.hl]
  | .set_3_atHl => [s.hl]
  | .res_4_atHl => [s.hl]
  | .set_4_atHl => [s.hl]
  | .res_5_atHl => [s.hl]
  | .set_5_atHl => [s.hl]
  | .res_6_atHl => [s.hl]
  | .set_6_atHl => [s.hl]
  | .res_7_atHl => [s.hl]
  | .set_7_atHl => [s.hl]
  | .prefix_cb cbop => if cbop.toNat % 8 = 6 ∧ cbop.toNat / 64 ≠ 1 then [s.hl] else []
  | _ => []

/-! ### Which bytes a store can reach (20_memory.md R76, R90 to R96) -/

/-- The address whose cell an address of WRAM or its echo reaches (20_memory.md R84). -/
def unecho (a : Nat) : Nat := if 0xE000 ≤ a ∧ a < 0xFE00 then a - 0x2000 else a

/-- The low bytes of the I/O registers whose reads a write to I/O register `reg` may change: its own, and those its
side effect writes (61_timer.md R463 to R466, 62_ppu.md R490, R491, 63_apu.md R543; 20_memory.md R96). -/
def ioReach (reg : Nat) : List Nat :=
  match reg with
  | 0x00 => [0x00]
  | 0x04 => [0x04, 0x05, 0x0F]
  | 0x05 => [0x05]
  | 0x06 => [0x06]
  | 0x07 => [0x05, 0x07, 0x0F]
  | 0x0F => [0x0F]
  | 0x40 => [0x0F, 0x40, 0x41, 0x44]
  | 0x41 => [0x41]
  | 0x42 => [0x42]
  | 0x43 => [0x43]
  | 0x45 => [0x45]
  | 0x46 => [0x46]
  | 0x47 => [0x47]
  | 0x48 => [0x48]
  | 0x49 => [0x49]
  | 0x4A => [0x4A]
  | 0x4B => [0x4B]
  | n =>
    if 0x10 ≤ n ∧ n < 0x30 then (List.range 0x20).map (· + 0x10)
    else if 0x30 ≤ n ∧ n < 0x40 then [n]
    else []

/-- Whether a write to I/O register `reg` may change what address `y` reads as: its registers; VRAM and OAM for LCDC,
whose edges change the mode that gates them (62_ppu.md R490, R491); OAM for the DMA register (20_memory.md R104). -/
def ioReaches (reg y : Nat) : Bool :=
  match regionOf y with
  | .io => decide (y - 0xFF00 ∈ ioReach reg)
  | .vram => decide (reg = 0x40)
  | .oam => decide (reg = 0x40) || decide (reg = 0x46)
  | _ => false

/-- Whether a store to address `a` may change what address `y` reads as: the byte itself, its alias in the echo (R84)
or in the mapped external RAM (64_cartridge.md R594, R597), the banked windows for a store to the controller
(64_cartridge.md R592), and what an I/O register's write reaches. -/
def State.storeReaches (s : State) (a y : Word) : Bool :=
  match regionOf a.toNat with
  | .rom => decide (regionOf y.toNat = .rom) || decide (regionOf y.toNat = .xram)
  | .vram => decide (y = a)
  | .xram => decide (regionOf y.toNat = .xram) && decide (s.cart.ramOffset y.toNat = s.cart.ramOffset a.toNat)
  | .wram => decide (unecho y.toNat = unecho a.toNat)
  | .echo => decide (unecho y.toNat = unecho a.toNat)
  | .oam => decide (y = a)
  | .prohibited => false
  | .io => ioReaches (a.toNat - 0xFF00) y.toNat
  | .hram => decide (y = a)
  | .ie => decide (y = a)

/-! ### What only an instruction's own rule lets it change -/

/-- Everything a store can change: the byte arrays, the controller's registers, the devices, IE and IF
(20_memory.md R76). Two states agree on the rest when they have the same of these fields. -/
structure Rest where
  regs           : Regs
  flags          : Flags
  sp             : Word
  pc             : Word
  ime            : Bool
  eiDelayPending : Bool
  halted         : Bool
  haltBugActive  : Bool
  stepCount      : Nat
  tcycles        : Nat
  buttons        : Byte
  inputQueue     : List Byte
  audio          : Audio
  rom            : Memory
  romSize        : Nat
  ramSize        : Nat
  battery        : Bool
  params         : Params
  deriving DecidableEq, Repr

/-- The part of a state no store to memory changes. -/
def State.rest (s : State) : Rest :=
  { regs := s.regs, flags := s.flags, sp := s.sp, pc := s.pc, ime := s.ime, eiDelayPending := s.eiDelayPending,
    halted := s.halted, haltBugActive := s.haltBugActive, stepCount := s.stepCount, tcycles := s.tcycles,
    buttons := s.buttons, inputQueue := s.inputQueue, audio := s.audio, rom := s.cart.rom,
    romSize := s.cart.romSize, ramSize := s.cart.ramSize, battery := s.cart.battery, params := s.params }

/-- The kind of bank controller, without its registers (64_cartridge.md R591: a type tag). -/
def Mbc.kind : Mbc → Nat
  | .none => 0
  | .mbc1 _ _ _ _ => 1
  | .mbc2 _ _ => 2
  | .mbc3 _ _ _ => 3
  | .mbc5 _ _ _ => 5

end Sys2Proof.Machine
end

