-- ==== Sys2Proof/Certificates/Slice0/Obligations.lean ====
section
/-! DEFINITION. The statements for the provers. Each docstring names the rules of spec/ it rests on; "of the spec" marks
a decision spec/ takes itself (92_eei_decisions.md). -/

open Sys2Proof Sys2Proof.Machine

/-- Encoder and decoder agree (30_encoding.md R134, R138, R140, R141): no bit of an encoding is dropped. -/
def Obligations.DecodeOfEncode : Prop :=
  ∀ (i : Instr) (rest : List Byte), i.wellFormed = true → decode (encode i ++ rest) = .ok (i, rest)

/-- The other direction of the round trip (30_encoding.md R143: every value names exactly one instruction), and that three bytes always decode. -/
def Obligations.EncodeOfDecode : Prop :=
  (∀ (bytes : List Byte) (i : Instr) (rest : List Byte),
    decode bytes = .ok (i, rest) → i.wellFormed = true ∧ encode i ++ rest = bytes) ∧
  (∀ b0 b1 b2 : Byte, ∃ (i : Instr) (rest : List Byte), decode [b0, b1, b2] = .ok (i, rest))

/-- 30_encoding.md R138, with its lists. -/
def Obligations.LengthByFirstByte : Prop :=
  ∀ i : Instr, i.wellFormed = true →
    ∃ (op : Byte) (more : List Byte), encode i = op :: more ∧
      1 + more.length =
        if op.toNat ∈ [0x01, 0x11, 0x21, 0x31, 0x08, 0xC2, 0xC3, 0xC4, 0xCA, 0xCC, 0xCD, 0xD2, 0xD4, 0xDA, 0xDC, 0xEA,
            0xFA] then 3
        else if op.toNat ∈ [0x06, 0x0E, 0x16, 0x1E, 0x26, 0x2E, 0x36, 0x3E, 0xC6, 0xCE, 0xD6, 0xDE, 0xE6, 0xEE, 0xF6,
            0xFE, 0xE0, 0xF0, 0x18, 0x20, 0x28, 0x30, 0x38, 0xE8, 0xF8, 0xCB, 0x10] then 2
        else 1

/-- Words of the spec: R201, R209, R230, R231, R304, R306, R282, R337, R141, R346. -/
def Obligations.DecodeSanityWords : Prop :=
  decode [0x3E, 0x42] = .ok (.ld_a_n 0x42, []) ∧
  decode [0x21, 0x4D, 0x01] = .ok (.ld_hl_nn 0x014D, []) ∧
  decode [0x08, 0x00, 0xC1] = .ok (.ld_atNn_sp 0xC100, []) ∧
  decode [0xFA, 0x44, 0xFF] = .ok (.ld_a_atNn 0xFF44, []) ∧
  decode [0x18, 0xFE] = .ok (.jr_e 0xFE, []) ∧
  decode [0xCD, 0x00, 0x20] = .ok (.call_nn 0x2000, []) ∧
  decode [0xE8, 0x80] = .ok (.add_sp_e 0x80, []) ∧
  decode [0x10, 0x00] = .ok (.stop 0x00, []) ∧
  decode [0xCB, 0x7C] = .ok (.bit_7_h, []) ∧
  decode [0xCB, 0xC6] = .ok (.set_0_atHl, []) ∧
  decode [0xD3] = .ok (.illegal_d3, [])

/-- 60_exceptions.md R400 and R401, 30_encoding.md R134 to R137. The place of the EI promotion (92_eei_decisions.md D6) and the order of the devices (D50) are the decisions of the spec; the table as a parameter is 00_scope.md R11 (log entry 3). The sample clock is the own choice of the model (log entry 13). -/
def Obligations.StepRunsDecoded : Prop :=
  (∀ (s u : State) (i : Instr) (rest : List Byte), u = s.applyInputs.countStep → u.halted = false →
    decode [u.memRead u.pc, u.memRead u.operandAddr, u.memRead (u.operandAddr + 1)] = .ok (i, rest) →
    i.wellFormed = true ∧
    u.operandAddr = (if u.haltBugActive then u.pc else u.pc + 1) ∧
    u.afterFetch = { u with haltBugActive := false, pc := u.operandAddr + BitVec.ofNat 16 ((encode i).length - 1) } ∧
    ∀ t : State, exec i u.afterFetch = .next t → ∃ c e : State,
      (u.params.cycleTable = none → c = t) ∧
      (∀ table : CycleTable, u.params.cycleTable = some table → ∀ entry : CycleEntry,
        entry = (if u.memRead u.pc = 0xCB then table.cb.get (u.memRead u.operandAddr).toFin
                 else table.primary.get (u.memRead u.pc).toFin) →
        c = { t with tcycles := if branchTaken i u.flags then entry.taken else entry.notTaken }) ∧
      e = c.endOfStep u.eiDelayPending ∧ cpuStep s.applyInputs = .next e ∧
      ∀ (timer : Timer × BitVec 5) (ppu : Ppu × BitVec 5),
        timer = Timer.advance e.params e.tcycles (e.timer, e.iflag) →
        ppu = Ppu.advance e.ram e.tcycles (e.ppu, timer.2) →
        step s = .next
          { e with timer := timer.1, ppu := ppu.1, iflag := ppu.2, apu := Apu.advance e.ram e.tcycles e.apu,
                   audio := Audio.advance e.params e.ram e.tcycles e.apu e.audio }) ∧
  (∀ (p : Params) (mem : Memory) (n : Nat) (timer : Timer) (ppu : Ppu) (apu : Apu) (iflag : BitVec 5),
    Timer.advance p 0 (timer, iflag) = (timer, iflag) ∧ Ppu.advance mem 0 (ppu, iflag) = (ppu, iflag) ∧
    Apu.advance mem 0 apu = apu ∧
    Timer.advance p (n + 1) (timer, iflag) = Timer.advance p n (timer.tick p iflag) ∧
    Ppu.advance mem (n + 1) (ppu, iflag) = Ppu.advance mem n (ppu.tick mem iflag) ∧
    Apu.advance mem (n + 1) apu = Apu.advance mem n (apu.tick mem))

/-- 60_exceptions.md R410. -/
def Obligations.StepAlwaysAnswers : Prop :=
  (∀ (i : Instr) (s : State), ∃ t : State, exec i s = .next t) ∧ (∀ s : State, ∃ t : State, step s = .next t)

/-- 10_state.md R47, 60_exceptions.md R404, 63_apu.md R564. That the T-cycles stand in a field of the state (log entry 8), at which T-cycles samples are taken and that all up to n are drained (log entry 13) are the own choices of the model. -/
def Obligations.StepCounts : Prop :=
  (∀ s t : State, step s = .next t →
    t.stepCount = s.stepCount + 1 ∧
    (s.params.cycleTable = none → t.tcycles % 4 = 0 ∧ 4 ≤ t.tcycles ∧ t.tcycles ≤ 44) ∧
    ∀ period : Nat, period = 4194304 * s.params.sampleRate.seconds → s.audio.phase < period →
      ∃ more : List (Int × Int), t.audio.samples = s.audio.samples ++ more ∧
        more.length * period + t.audio.phase = s.audio.phase + t.tcycles * s.params.sampleRate.samples ∧
        t.audio.phase < period) ∧
  (∀ (s : State) (n : Nat) (first rest : List (Int × Int)), s.audio.samples = first ++ rest →
    (first.length = n ∨ (first.length ≤ n ∧ rest = [])) →
    (s.takeSamples n).count = first.length ∧ (s.takeSamples n).count ≤ n ∧
    (s.takeSamples n).dst = (first.map (fun x => [x.1, x.2])).flatten ∧
    (s.takeSamples n).after = { s with audio := { s.audio with samples := rest } })

/-- 60_exceptions.md R400 to R402; the 20 T-cycles and the instruction run in the waking step are decision D7 of the spec, the order of the devices D50. The sample clock is the own choice of the model (log entry 13). -/
def Obligations.HaltedSteps : Prop :=
  (∀ s : State, s.halted = true →
    (s.pending = 0 → cpuStep s = .next { s with stepCount := s.stepCount + 1, tcycles := 4 }) ∧
    (∀ i : Interrupt, firstInterrupt s.pending = some i → s.ime = true →
      cpuStep s = .next
        { State.dispatch { s with stepCount := s.stepCount + 1, halted := false } i with tcycles := 20 }) ∧
    (s.pending ≠ 0 → s.ime = false → cpuStep s = cpuStep { s with halted := false })) ∧
  (∀ s e : State, s.applyInputs.halted = true → cpuStep s.applyInputs = .next e →
    ∀ (timer : Timer × BitVec 5) (ppu : Ppu × BitVec 5),
      timer = Timer.advance e.params e.tcycles (e.timer, e.iflag) →
      ppu = Ppu.advance e.ram e.tcycles (e.ppu, timer.2) →
      step s = .next
        { e with timer := timer.1, ppu := ppu.1, iflag := ppu.2, apu := Apu.advance e.ram e.tcycles e.apu,
                 audio := Audio.advance e.params e.ram e.tcycles e.apu e.audio })

/-- 60_exceptions.md R414 and R420. The order of the actions is decision D10 of the spec, the byte order of the push D4. -/
def Obligations.DispatchEffect : Prop :=
  ∀ (s : State) (i : Interrupt),
    (s.dispatch i).pc = (match i with
      | .vblank => 0x0040#16 | .stat => 0x0048#16 | .timer => 0x0050#16 | .serial => 0x0058#16 | .joypad => 0x0060#16) ∧
    (s.dispatch i).sp = s.sp - 2 ∧ (s.dispatch i).ime = false ∧ (s.dispatch i).halted = false ∧
    (∀ w : State, w = (s.memWrite (s.sp - 1) (s.pc.extractLsb' 8 8)).memWrite (s.sp - 2) (s.pc.extractLsb' 0 8) →
      (s.dispatch i).iflag = w.iflag &&& ~~~(match i with
        | .vblank => 1#5 | .stat => 2#5 | .timer => 4#5 | .serial => 8#5 | .joypad => 16#5) ∧
      s.dispatch i = { w with sp := s.sp - 2, ime := false, halted := false, iflag := (s.dispatch i).iflag,
                              pc := (s.dispatch i).pc }) ∧
    (s.dispatch i).regs = s.regs ∧ (s.dispatch i).flags = s.flags ∧
    (s.dispatch i).eiDelayPending = s.eiDelayPending ∧ (s.dispatch i).haltBugActive = s.haltBugActive ∧
    (regionOf (s.sp - 1).toNat ∈ [Region.wram, Region.echo, Region.hram] →
      regionOf (s.sp - 2).toNat ∈ [Region.wram, Region.echo, Region.hram] →
      (s.dispatch i).memRead (s.sp - 1) = s.pc.extractLsb' 8 8 ∧ (s.dispatch i).memRead (s.sp - 2) = s.pc.extractLsb' 0 8 ∧
      (s.dispatch i).iflag = s.iflag &&& ~~~i.mask)

/-- 60_exceptions.md R415 (and R403). -/
def Obligations.EndOfStepCheck : Prop :=
  ∀ s : State,
    (s.ime = false ∨ s.ie.setWidth 5 &&& s.iflag = 0 → s.serviceInterrupt = s) ∧
    (s.ime = true → ∀ n : Nat, n < 5 → (s.ie.setWidth 5 &&& s.iflag).getLsbD n = true →
      (∀ m : Nat, m < n → (s.ie.setWidth 5 &&& s.iflag).getLsbD m = false) →
      ∃ i : Interrupt, i.mask = 1#5 <<< n ∧ s.serviceInterrupt = { s.dispatch i with tcycles := s.tcycles + 20 } ∧
        s.serviceInterrupt.serviceInterrupt = s.serviceInterrupt)

/-- 60_exceptions.md R431 in the step of R400; that the promotion precedes the check is decision D6 of the spec, the EI sequences D8. -/
def Obligations.EiDelay : Prop :=
  ∀ s : State, s.halted = false →
    (s.fetched = .ei → s.ime = false → s.eiDelayPending = false →
      ∃ n : Nat, (s.params.cycleTable = none → n = 4) ∧
        cpuStep s = .next { s.countStep.afterFetch with eiDelayPending := true, tcycles := n }) ∧
    (s.fetched = .di →
      ∃ n : Nat, (s.params.cycleTable = none → n = 4) ∧
        cpuStep s = .next { s.countStep.afterFetch with ime := false, eiDelayPending := false, tcycles := n }) ∧
    (s.eiDelayPending = true → s.fetched ≠ .di →
      ∃ (t : State) (n : Nat), exec s.fetched s.countStep.afterFetch = .next t ∧
        (s.params.cycleTable = none → n = t.tcycles) ∧
        cpuStep s = .next (State.serviceInterrupt { t with ime := true, eiDelayPending := false, tcycles := n }))

/-- 60_exceptions.md R430, 10_state.md R38 to R40 and R47, as frames of exec; the input queue and the parameters are fields of the model (log entries 3 and 9), the sample stream is the form the model gives it (log entry 13). -/
def Obligations.HiddenStateFrame : Prop :=
  ∀ (i : Instr) (s t : State), exec i s = .next t →
    (i ≠ .di → i ≠ .reti → t.ime = s.ime) ∧
    (i ≠ .ei → i ≠ .di → t.eiDelayPending = s.eiDelayPending) ∧
    (i ≠ .halt → (∀ pad : Byte, i ≠ .stop pad) → t.halted = s.halted) ∧
    (i ≠ .halt → t.haltBugActive = s.haltBugActive) ∧
    t.stepCount = s.stepCount ∧ t.buttons = s.buttons ∧ t.inputQueue = s.inputQueue ∧ t.audio = s.audio ∧ t.params = s.params

/-- 10_state.md R40, 30_encoding.md R135, 70_reset_and_hazards.md R632; that operand fetches always advance PC is decision D9 of the spec. -/
def Obligations.HaltBugRunsTwice : Prop :=
  ∀ s : State, s.halted = false → s.haltBugActive = true → s.ime = false → s.eiDelayPending = false →
    (s.memRead s.pc = 0x04 → ∃ t : State, cpuStep s = .next t ∧
      t.pc = s.pc ∧ t.regs.b = s.regs.b + 1 ∧ t.haltBugActive = false) ∧
    (s.memRead s.pc = 0x3E → ∃ t : State, cpuStep s = .next t ∧
      t.pc = s.pc + 1 ∧ t.regs.a = 0x3E ∧ t.haltBugActive = false)

/-- 40_load8.md R200 to R202, R205, R206, R209, R211, R213, R216, R218. -/
def Obligations.LoadByte : Prop :=
  (∀ (dst src : Reg8) (n : Byte) (s : State),
    exec (ldInstr dst src) s = .next { s with regs := s.regs.set dst (s.regs.get src), tcycles := 4 } ∧
    exec (ldImmInstr dst n) s = .next { s with regs := s.regs.set dst n, tcycles := 8 } ∧
    exec (ldAtHlInstr dst) s = .next { s with regs := s.regs.set dst (s.memRead (s.regs.h ++ s.regs.l)), tcycles := 8 }) ∧
  (∀ (n : Byte) (nn : Word) (s : State),
    exec .ld_a_atBc s = .next { s with regs := { s.regs with a := s.memRead (s.regs.b ++ s.regs.c) }, tcycles := 8 } ∧
    exec .ld_a_atDe s = .next { s with regs := { s.regs with a := s.memRead (s.regs.d ++ s.regs.e) }, tcycles := 8 } ∧
    exec (.ld_a_atNn nn) s = .next { s with regs := { s.regs with a := s.memRead nn }, tcycles := 16 } ∧
    exec (.ldh_a_atN n) s = .next { s with regs := { s.regs with a := s.memRead (0xFF#8 ++ n) }, tcycles := 12 } ∧
    exec .ld_a_atC s = .next { s with regs := { s.regs with a := s.memRead (0xFF#8 ++ s.regs.c) }, tcycles := 8 } ∧
    exec .ld_a_atHlInc s = .next
      { s with regs := { s.regs with
                 a := s.memRead (s.regs.h ++ s.regs.l),
                 h := ((s.regs.h ++ s.regs.l) + 1#16).extractLsb' 8 8,
                 l := ((s.regs.h ++ s.regs.l) + 1#16).extractLsb' 0 8 }, tcycles := 8 } ∧
    exec .ld_a_atHlDec s = .next
      { s with regs := { s.regs with
                 a := s.memRead (s.regs.h ++ s.regs.l),
                 h := ((s.regs.h ++ s.regs.l) - 1#16).extractLsb' 8 8,
                 l := ((s.regs.h ++ s.regs.l) - 1#16).extractLsb' 0 8 }, tcycles := 8 })

/-- 40_load8.md R203, R204, R207, R208, R210, R212, R214, R215, R217. -/
def Obligations.StoreByte : Prop :=
  ∀ (r : Reg8) (n : Byte) (nn : Word) (s : State),
    exec (stAtHlInstr r) s = .next { s.memWrite (s.regs.h ++ s.regs.l) (s.regs.get r) with tcycles := 8 } ∧
    exec (.ld_atHl_n n) s = .next { s.memWrite (s.regs.h ++ s.regs.l) n with tcycles := 12 } ∧
    exec .ld_atBc_a s = .next { s.memWrite (s.regs.b ++ s.regs.c) s.regs.a with tcycles := 8 } ∧
    exec .ld_atDe_a s = .next { s.memWrite (s.regs.d ++ s.regs.e) s.regs.a with tcycles := 8 } ∧
    exec (.ld_atNn_a nn) s = .next { s.memWrite nn s.regs.a with tcycles := 16 } ∧
    exec (.ldh_atN_a n) s = .next { s.memWrite (0xFF#8 ++ n) s.regs.a with tcycles := 12 } ∧
    exec .ld_atC_a s = .next { s.memWrite (0xFF#8 ++ s.regs.c) s.regs.a with tcycles := 8 } ∧
    exec .ld_atHlInc_a s = .next
      { s.memWrite (s.regs.h ++ s.regs.l) s.regs.a with
        regs := { s.regs with
          h := ((s.regs.h ++ s.regs.l) + 1#16).extractLsb' 8 8,
          l := ((s.regs.h ++ s.regs.l) + 1#16).extractLsb' 0 8 }, tcycles := 8 } ∧
    exec .ld_atHlDec_a s = .next
      { s.memWrite (s.regs.h ++ s.regs.l) s.regs.a with
        regs := { s.regs with
          h := ((s.regs.h ++ s.regs.l) - 1#16).extractLsb' 8 8,
          l := ((s.regs.h ++ s.regs.l) - 1#16).extractLsb' 0 8 }, tcycles := 8 }

/-- 41_load16_stack.md R230, R231, R233. -/
def Obligations.LoadPair : Prop :=
  ∀ (nn : Word) (s : State),
    exec (ldPairInstr .bc nn) s = .next
      { s with regs := { s.regs with b := nn.extractLsb' 8 8, c := nn.extractLsb' 0 8 }, tcycles := 12 } ∧
    exec (ldPairInstr .de nn) s = .next
      { s with regs := { s.regs with d := nn.extractLsb' 8 8, e := nn.extractLsb' 0 8 }, tcycles := 12 } ∧
    exec (ldPairInstr .hl nn) s = .next
      { s with regs := { s.regs with h := nn.extractLsb' 8 8, l := nn.extractLsb' 0 8 }, tcycles := 12 } ∧
    exec (ldPairInstr .sp nn) s = .next { s with sp := nn, tcycles := 12 } ∧
    exec (.ld_atNn_sp nn) s = .next
      { (s.memWrite nn (s.sp.extractLsb' 0 8)).memWrite (nn + 1) (s.sp.extractLsb' 8 8) with tcycles := 20 } ∧
    exec .ld_sp_hl s = .next { s with sp := s.regs.h ++ s.regs.l, tcycles := 8 }

/-- 41_load16_stack.md R232, 43_alu16.md R282; the flags are decision D14 of the spec. -/
def Obligations.StackPointerPlusDisplacement : Prop :=
  ∀ (e : Byte) (s : State), ∃ (v : Word) (f : Flags),
    (v.toNat : Int) = (s.sp.toNat + e.toInt) % 65536 ∧
    f.z = false ∧ f.n = false ∧ (f.h = true ↔ 15 < s.sp.toNat % 16 + e.toNat % 16) ∧
    (f.c = true ↔ 255 < s.sp.toNat % 256 + e.toNat) ∧
    exec (.ld_hl_spE e) s = .next
      { s with regs := { s.regs with h := v.extractLsb' 8 8, l := v.extractLsb' 0 8 }, flags := f, tcycles := 12 } ∧
    exec (.add_sp_e e) s = .next { s with sp := v, flags := f, tcycles := 16 }

/-- 41_load16_stack.md R234 to R237; the byte order and the decrement before the write are decision D4 of the spec. -/
def Obligations.PushAndPop : Prop :=
  (∀ s : State,
    (∀ (hi lo : Byte) (p : StackPair),
      (match p with
        | .bc => hi = s.regs.b ∧ lo = s.regs.c
        | .de => hi = s.regs.d ∧ lo = s.regs.e
        | .hl => hi = s.regs.h ∧ lo = s.regs.l
        | .af => hi = s.regs.a ∧ lo = BitVec.ofBool s.flags.z ++ BitVec.ofBool s.flags.n ++ BitVec.ofBool s.flags.h ++
            BitVec.ofBool s.flags.c ++ 0#4) →
      exec (pushInstr p) s = .next
        { (s.memWrite (s.sp - 1) hi).memWrite (s.sp - 2) lo with sp := s.sp - 2, tcycles := 16 })) ∧
  (∀ s : State,
    exec .pop_bc s = .next { s with
      regs := { s.regs with b := s.memRead (s.sp + 1), c := s.memRead s.sp }, sp := s.sp + 2, tcycles := 12 } ∧
    exec .pop_de s = .next { s with
      regs := { s.regs with d := s.memRead (s.sp + 1), e := s.memRead s.sp }, sp := s.sp + 2, tcycles := 12 } ∧
    exec .pop_hl s = .next { s with
      regs := { s.regs with h := s.memRead (s.sp + 1), l := s.memRead s.sp }, sp := s.sp + 2, tcycles := 12 } ∧
    exec .pop_af s = .next { s with
      regs := { s.regs with a := s.memRead (s.sp + 1) },
      flags := { z := (s.memRead s.sp).getLsbD 7, n := (s.memRead s.sp).getLsbD 6,
                 h := (s.memRead s.sp).getLsbD 5, c := (s.memRead s.sp).getLsbD 4 },
      sp := s.sp + 2, tcycles := 12 })

/-- 41_load16_stack.md R235: PUSH rr; POP rr restores rr exactly. -/
def Obligations.PushPopRestores : Prop :=
  ∀ (p : StackPair) (s : State),
    regionOf (s.sp - 1).toNat ∈ [Region.wram, Region.echo, Region.hram] →
    regionOf (s.sp - 2).toNat ∈ [Region.wram, Region.echo, Region.hram] →
    ∃ t u : State, exec (pushInstr p) s = .next t ∧ exec (popInstr p) t = .next u ∧
      u.regs = s.regs ∧ u.flags = s.flags ∧ u.sp = s.sp

/-- 42_alu8.md R250, R251, R252. -/
def Obligations.AddAndAdc : Prop :=
  ∀ (src : Src8) (s : State) (v : Byte) (n : Nat),
    (match src with
      | .reg r => v = s.regs.get r ∧ n = 4
      | .atHl => v = s.memRead (s.regs.h ++ s.regs.l) ∧ n = 8
      | .imm b => v = b ∧ n = 8) →
    (∀ t : Nat, t = s.regs.a.toNat + v.toNat →
      exec (aluInstr .add src) s = .next { s with
        regs := { s.regs with a := BitVec.ofNat 8 t },
        flags := { z := decide (t % 256 = 0), n := false,
                   h := decide (0xF < s.regs.a.toNat % 16 + v.toNat % 16), c := decide (0xFF < t) },
        tcycles := n }) ∧
    (∀ c t : Nat, c = (if s.flags.c then 1 else 0) → t = s.regs.a.toNat + v.toNat + c →
      exec (aluInstr .adc src) s = .next { s with
        regs := { s.regs with a := BitVec.ofNat 8 t },
        flags := { z := decide (t % 256 = 0), n := false,
                   h := decide (0xF < s.regs.a.toNat % 16 + v.toNat % 16 + c), c := decide (0xFF < t) },
        tcycles := n })

/-- 42_alu8.md R250, R253, R254, R258. -/
def Obligations.SubSbcAndCp : Prop :=
  ∀ (src : Src8) (s : State) (v : Byte) (n : Nat),
    (match src with
      | .reg r => v = s.regs.get r ∧ n = 4
      | .atHl => v = s.memRead (s.regs.h ++ s.regs.l) ∧ n = 8
      | .imm b => v = b ∧ n = 8) →
    (∀ t : Int, t = (s.regs.a.toNat : Int) - v.toNat →
      exec (aluInstr .sub src) s = .next { s with
        regs := { s.regs with a := BitVec.ofInt 8 t },
        flags := { z := decide (t % 256 = 0), n := true,
                   h := decide (s.regs.a.toNat % 16 < v.toNat % 16), c := decide (s.regs.a.toNat < v.toNat) },
        tcycles := n }) ∧
    (∀ (c : Nat) (t : Int), c = (if s.flags.c then 1 else 0) → t = (s.regs.a.toNat : Int) - v.toNat - c →
      exec (aluInstr .sbc src) s = .next { s with
        regs := { s.regs with a := BitVec.ofInt 8 t },
        flags := { z := decide (t % 256 = 0), n := true,
                   h := decide (s.regs.a.toNat % 16 < v.toNat % 16 + c), c := decide (s.regs.a.toNat < v.toNat + c) },
        tcycles := n }) ∧
    exec (aluInstr .cp src) s = .next { s with
      flags := { z := decide (s.regs.a = v), n := true,
                 h := decide (s.regs.a.toNat % 16 < v.toNat % 16), c := decide (s.regs.a.toNat < v.toNat) },
      tcycles := n }

/-- 42_alu8.md R250, R255, R256, R257. -/
def Obligations.AndXorAndOr : Prop :=
  ∀ (src : Src8) (s : State) (v : Byte) (n : Nat),
    (match src with
      | .reg r => v = s.regs.get r ∧ n = 4
      | .atHl => v = s.memRead (s.regs.h ++ s.regs.l) ∧ n = 8
      | .imm b => v = b ∧ n = 8) →
    exec (aluInstr .and src) s = .next { s with
      regs := { s.regs with a := s.regs.a &&& v },
      flags := { z := decide (s.regs.a &&& v = 0), n := false, h := true, c := false }, tcycles := n } ∧
    exec (aluInstr .xor src) s = .next { s with
      regs := { s.regs with a := s.regs.a ^^^ v },
      flags := { z := decide (s.regs.a ^^^ v = 0), n := false, h := false, c := false }, tcycles := n } ∧
    exec (aluInstr .or src) s = .next { s with
      regs := { s.regs with a := s.regs.a ||| v },
      flags := { z := decide (s.regs.a ||| v = 0), n := false, h := false, c := false }, tcycles := n }

/-- 42_alu8.md R259, R260, R261, R262. -/
def Obligations.IncAndDec : Prop :=
  ∀ (r : Reg8) (s : State) (v w : Byte), v = s.regs.get r → w = s.memRead (s.regs.h ++ s.regs.l) →
    exec (incInstr r) s = .next { s with
      regs := s.regs.set r (v + 1),
      flags := { s.flags with z := decide (v = 0xFF), n := false, h := decide (v.toNat % 16 = 15) }, tcycles := 4 } ∧
    exec (decInstr r) s = .next { s with
      regs := s.regs.set r (v - 1),
      flags := { s.flags with z := decide (v = 1), n := true, h := decide (v.toNat % 16 = 0) }, tcycles := 4 } ∧
    exec .inc_atHl s = .next { s.memWrite (s.regs.h ++ s.regs.l) (w + 1) with
      flags := { s.flags with z := decide (w = 0xFF), n := false, h := decide (w.toNat % 16 = 15) }, tcycles := 12 } ∧
    exec .dec_atHl s = .next { s.memWrite (s.regs.h ++ s.regs.l) (w - 1) with
      flags := { s.flags with z := decide (w = 1), n := true, h := decide (w.toNat % 16 = 0) }, tcycles := 12 }

/-- 43_alu16.md R280, R281, R283. -/
def Obligations.WordArithmetic : Prop :=
  ∀ (p : Pair) (s : State) (v : Word),
    v = (match p with
      | .bc => s.regs.b ++ s.regs.c | .de => s.regs.d ++ s.regs.e | .hl => s.regs.h ++ s.regs.l | .sp => s.sp) →
    (∀ (t : Nat) (r : Word), t = (s.regs.h ++ s.regs.l).toNat + v.toNat → r = BitVec.ofNat 16 t →
      exec (addHlInstr p) s = .next { s with
        regs := { s.regs with h := r.extractLsb' 8 8, l := r.extractLsb' 0 8 },
        flags := { s.flags with
          n := false, h := decide (0xFFF < (s.regs.h ++ s.regs.l).toNat % 4096 + v.toNat % 4096), c := decide (0xFFFF < t) },
        tcycles := 8 }) ∧
    (∀ (i : Instr) (r : Word), (i = incPairInstr p ∧ r = v + 1) ∨ (i = decPairInstr p ∧ r = v - 1) →
      exec i s = .next (match p with
        | .bc => { s with regs := { s.regs with b := r.extractLsb' 8 8, c := r.extractLsb' 0 8 }, tcycles := 8 }
        | .de => { s with regs := { s.regs with d := r.extractLsb' 8 8, e := r.extractLsb' 0 8 }, tcycles := 8 }
        | .hl => { s with regs := { s.regs with h := r.extractLsb' 8 8, l := r.extractLsb' 0 8 }, tcycles := 8 }
        | .sp => { s with sp := r, tcycles := 8 }))

/-- 44_rotate_a.md R290 to R293; the flags are decision D14 of the spec. -/
def Obligations.RotateAccumulator : Prop :=
  ∀ s : State,
    exec .rlca s = .next { s with
      regs := { s.regs with a := s.regs.a.rotateLeft 1 }, flags := ⟨false, false, false, s.regs.a.getLsbD 7⟩,
      tcycles := 4 } ∧
    exec .rrca s = .next { s with
      regs := { s.regs with a := s.regs.a.rotateRight 1 }, flags := ⟨false, false, false, s.regs.a.getLsbD 0⟩,
      tcycles := 4 } ∧
    exec .rla s = .next { s with
      regs := { s.regs with a := s.regs.a.extractLsb' 0 7 ++ BitVec.ofBool s.flags.c },
      flags := ⟨false, false, false, s.regs.a.getLsbD 7⟩, tcycles := 4 } ∧
    exec .rra s = .next { s with
      regs := { s.regs with a := BitVec.ofBool s.flags.c ++ s.regs.a.extractLsb' 1 7 },
      flags := ⟨false, false, false, s.regs.a.getLsbD 0⟩, tcycles := 4 }

/-- 45_control.md R301 to R305, with the conditions of R300; that all operand bytes are fetched is stated by StepRunsDecoded, which gives the PC exec starts from. -/
def Obligations.Jumps : Prop :=
  ∀ (cc : Cond) (nn : Word) (e : Byte) (s : State) (taken : Bool),
    taken = (match cc with | .nz => !s.flags.z | .z => s.flags.z | .nc => !s.flags.c | .c => s.flags.c) →
    exec (.jp_nn nn) s = .next { s with pc := nn, tcycles := 16 } ∧
    exec .jp_hl s = .next { s with pc := s.regs.h ++ s.regs.l, tcycles := 4 } ∧
    exec (.jr_e e) s = .next { s with pc := s.pc + e.signExtend 16, tcycles := 12 } ∧
    exec (jpInstr cc nn) s = .next
      (if taken then { s with pc := nn, tcycles := 16 } else { s with tcycles := 12 }) ∧
    exec (jrInstr cc e) s = .next
      (if taken then { s with pc := s.pc + e.signExtend 16, tcycles := 12 } else { s with tcycles := 8 })

/-- 45_control.md R306, R307, R312 over the push of 41_load16_stack.md R236; the order of the pushed bytes and the decrement before each write are decision D4 of the spec. -/
def Obligations.CallsAndRestarts : Prop :=
  ∀ (cc : Cond) (nn : Word) (y : Fin 8) (s w : State) (taken : Bool),
    taken = (match cc with | .nz => !s.flags.z | .z => s.flags.z | .nc => !s.flags.c | .c => s.flags.c) →
    w = (s.memWrite (s.sp - 1) (s.pc.extractLsb' 8 8)).memWrite (s.sp - 2) (s.pc.extractLsb' 0 8) →
    exec (.call_nn nn) s = .next { w with sp := s.sp - 2, pc := nn, tcycles := 24 } ∧
    exec (callInstr cc nn) s = .next
      (if taken then { w with sp := s.sp - 2, pc := nn, tcycles := 24 } else { s with tcycles := 12 }) ∧
    exec (rstInstr y) s = .next { w with sp := s.sp - 2, pc := BitVec.ofNat 16 (8 * y.val), tcycles := 16 }

/-- 45_control.md R308, R309; 46_misc.md R342, whose unchanged EI delay is decision D8 of the spec; the byte order of a pop is D4. -/
def Obligations.Returns : Prop :=
  ∀ (cc : Cond) (s : State) (taken : Bool) (target : Word),
    taken = (match cc with | .nz => !s.flags.z | .z => s.flags.z | .nc => !s.flags.c | .c => s.flags.c) →
    target = s.memRead (s.sp + 1) ++ s.memRead s.sp →
    exec .ret s = .next { s with pc := target, sp := s.sp + 2, tcycles := 16 } ∧
    exec (retInstr cc) s = .next
      (if taken then { s with pc := target, sp := s.sp + 2, tcycles := 20 } else { s with tcycles := 8 }) ∧
    exec .reti s = .next { s with pc := target, sp := s.sp + 2, ime := true, tcycles := 16 }

/-- 46_misc.md R330: decimal adjust A after a BCD addition or subtraction; for subtraction, decision D15 of the spec. -/
def Obligations.DaaDecimalSum : Prop :=
  ∀ (x y : Nat) (s : State), x < 100 → y < 100 → s.regs.a = BitVec.ofNat 8 (16 * (x / 10) + x % 10) →
    (∃ t u : State, exec (.add_a_n (BitVec.ofNat 8 (16 * (y / 10) + y % 10))) s = .next t ∧ exec .daa t = .next u ∧
      u.regs.a = BitVec.ofNat 8 (16 * ((x + y) % 100 / 10) + (x + y) % 10) ∧ (u.flags.c = true ↔ 100 ≤ x + y)) ∧
    (∃ t u : State, exec (.sub_n (BitVec.ofNat 8 (16 * (y / 10) + y % 10))) s = .next t ∧ exec .daa t = .next u ∧
      u.regs.a = BitVec.ofNat 8 (16 * ((x + 100 - y) % 100 / 10) + (x + 100 - y) % 10) ∧ (u.flags.c = true ↔ x < y))

/-- 46_misc.md R331, R334, R338, R339. -/
def Obligations.ComplementNopAndInterruptEnable : Prop :=
  ∀ s : State,
    exec .cpl s = .next { s with
      regs := { s.regs with a := s.regs.a ^^^ 0xFF }, flags := { s.flags with n := true, h := true }, tcycles := 4 } ∧
    exec .nop s = .next { s with tcycles := 4 } ∧
    exec .di s = .next { s with ime := false, eiDelayPending := false, tcycles := 4 } ∧
    exec .ei s = .next { s with eiDelayPending := true, tcycles := 4 }

/-- 46_misc.md R330, R332, R333, R337, R346: decisions D15 (DAA with N=1), D14, D11 and D12 of the spec. -/
def Obligations.DaaCarryFlagStopAndIllegal : Prop :=
  (∀ s : State, ∃ (hi lo a : Byte),
    hi = (if s.flags.c = true ∨ (s.flags.n = false ∧ 0x99 < s.regs.a.toNat) then 0x60#8 else 0#8) ∧
    lo = (if s.flags.h = true ∨ (s.flags.n = false ∧ 9 < s.regs.a.toNat % 16) then 0x06#8 else 0#8) ∧
    a = (if s.flags.n then s.regs.a - hi - lo else s.regs.a + hi + lo) ∧
    exec .daa s = .next { s with
      regs := { s.regs with a := a },
      flags := { z := decide (a = 0), n := s.flags.n, h := false, c := decide (hi = 0x60#8) }, tcycles := 4 }) ∧
  (∀ (pad : Byte) (s : State),
    exec .scf s = .next { s with flags := { s.flags with n := false, h := false, c := true }, tcycles := 4 } ∧
    exec .ccf s = .next { s with flags := { s.flags with n := false, h := false, c := !s.flags.c }, tcycles := 4 } ∧
    exec (.stop pad) s = .next { s with halted := true, tcycles := 4 } ∧
    (∀ i ∈ illegalInstrs, exec i s = .next { s with tcycles := 4 }))

/-- 46_misc.md R336; how a halted step goes on is HaltedSteps, how the HALT bug is consumed HaltBugRunsTwice. -/
def Obligations.HaltInstruction : Prop :=
  ∀ s : State, exec .halt s = .next
    (if s.ime = true ∨ s.ie.setWidth 5 &&& s.iflag = 0 then { s with halted := true, tcycles := 4 }
     else { s with haltBugActive := true, tcycles := 4 })

/-- 47_cb_shift.md R360 to R368. -/
def Obligations.CbRotatesAndShifts : Prop :=
  ∀ (op : RotOp) (s : State) (v w : Byte) (f : Flags),
    (match op with
      | .rlc => w = v.rotateLeft 1 ∧ f.c = v.getLsbD 7
      | .rrc => w = v.rotateRight 1 ∧ f.c = v.getLsbD 0
      | .rl => w = v.extractLsb' 0 7 ++ BitVec.ofBool s.flags.c ∧ f.c = v.getLsbD 7
      | .rr => w = BitVec.ofBool s.flags.c ++ v.extractLsb' 1 7 ∧ f.c = v.getLsbD 0
      | .sla => w = v.extractLsb' 0 7 ++ 0#1 ∧ f.c = v.getLsbD 7
      | .sra => w = v.extractLsb' 7 1 ++ v.extractLsb' 1 7 ∧ f.c = v.getLsbD 0
      | .swap => w = v.extractLsb' 0 4 ++ v.extractLsb' 4 4 ∧ f.c = false
      | .srl => w = 0#1 ++ v.extractLsb' 1 7 ∧ f.c = v.getLsbD 0) →
    f.z = decide (w = 0) → f.n = false → f.h = false →
    (∀ r : Reg8, v = s.regs.get r →
      exec (rotInstr op (.reg r)) s = .next { s with regs := s.regs.set r w, flags := f, tcycles := 8 }) ∧
    (v = s.memRead (s.regs.h ++ s.regs.l) →
      exec (rotInstr op .atHl) s = .next { s.memWrite (s.regs.h ++ s.regs.l) w with flags := f, tcycles := 16 })

/-- 48_cb_bit.md R380. -/
def Obligations.BitTests : Prop :=
  ∀ (b : Fin 8) (r : Reg8) (s : State),
    exec (bitInstr b (.reg r)) s = .next { s with
      flags := { s.flags with z := !(s.regs.get r).getLsbD b.val, n := false, h := true }, tcycles := 8 } ∧
    exec (bitInstr b .atHl) s = .next { s with
      flags := { s.flags with z := !(s.memRead (s.regs.h ++ s.regs.l)).getLsbD b.val, n := false, h := true },
      tcycles := 12 }

/-- 48_cb_bit.md R381, R382. -/
def Obligations.BitResetsAndSets : Prop :=
  ∀ (b : Fin 8) (s : State) (v w0 w1 : Byte),
    (∀ k : Nat, k < 8 → w0.getLsbD k = (if k = b.val then false else v.getLsbD k)) →
    (∀ k : Nat, k < 8 → w1.getLsbD k = (if k = b.val then true else v.getLsbD k)) →
    (∀ r : Reg8, v = s.regs.get r →
      exec (resInstr b (.reg r)) s = .next { s with regs := s.regs.set r w0, tcycles := 8 } ∧
      exec (setInstr b (.reg r)) s = .next { s with regs := s.regs.set r w1, tcycles := 8 }) ∧
    (v = s.memRead (s.regs.h ++ s.regs.l) →
      exec (resInstr b .atHl) s = .next { s.memWrite (s.regs.h ++ s.regs.l) w0 with tcycles := 16 } ∧
      exec (setInstr b .atHl) s = .next { s.memWrite (s.regs.h ++ s.regs.l) w1 with tcycles := 16 })

/-- 30_encoding.md R134, R141, R147. That the prefix is a term of its own, with this meaning, is the own choice of the model (log entry 7). -/
def Obligations.PrefixIsItsTableEntry : Prop :=
  ∀ (cbop : Byte) (s : State), ∃ (i : Instr) (t : State),
    decode [0xCB, cbop] = .ok (i, []) ∧ exec (.prefix_cb cbop) s = .next t ∧ exec i s = .next t

/-- 20_memory.md R82, R84, R85, R87 (and R86 but for the joypad, which JoypadRegister states, and the sound registers, which ApuRegisters states), 60_exceptions.md R412, R445, 61_timer.md R461, 62_ppu.md R480, R483; the IF bits are decision D20 of the spec, the addresses with no register D21, the register addresses D22, the bits of STAT D23. -/
def Obligations.ReadContract : Prop :=
  ∀ (s : State) (a : Word),
    (0x8000 ≤ a.toNat → a.toNat ≤ 0x9FFF →
      s.memRead a = (if s.ppu.mode = .transfer then 0xFF else s.ram.read a.toNat) ∧
      (s.ppu.Inv s.params → s.ppu.lcdOn = false → s.memRead a = s.ram.read a.toNat)) ∧
    (0xC000 ≤ a.toNat → a.toNat ≤ 0xDFFF → s.memRead a = s.ram.read a.toNat) ∧
    (0xE000 ≤ a.toNat → a.toNat ≤ 0xFDFF → s.memRead a = s.memRead (a - 0x2000)) ∧
    (0xFE00 ≤ a.toNat → a.toNat ≤ 0xFE9F → s.memRead a =
      (if s.ppu.mode = .oamSearch ∨ s.ppu.mode = .transfer then 0xFF else s.ram.read a.toNat)) ∧
    (0xFEA0 ≤ a.toNat → a.toNat ≤ 0xFEFF → s.memRead a = 0xFF) ∧
    (0xFF80 ≤ a.toNat → a.toNat ≤ 0xFFFE → s.memRead a = s.ram.read a.toNat) ∧
    (a = 0xFFFF → s.memRead a = s.ie) ∧
    (a = 0xFF0F → s.memRead a = 0xE0#8 ||| s.iflag.setWidth 8) ∧
    (∀ r ∈ ([(0xFF40, s.ppu.lcdc), (0xFF42, s.ppu.scy), (0xFF43, s.ppu.scx), (0xFF44, s.ppu.ly), (0xFF45, s.ppu.lyc),
        (0xFF46, s.ppu.dma), (0xFF47, s.ppu.bgp), (0xFF48, s.ppu.obp0), (0xFF49, s.ppu.obp1), (0xFF4A, s.ppu.wy),
        (0xFF4B, s.ppu.wx)] : List (Word × Byte)), s.memRead r.1 = r.2) ∧
    s.memRead 0xFF41 = 0x80#8 ||| s.ppu.statEnables.setWidth 8 <<< 3 ||| (if s.ppu.coincidence then 4#8 else 0#8) |||
      (if s.ppu.lcdc.getLsbD 7 then
        (match s.ppu.mode with | .hblank => 0#8 | .vblank => 1#8 | .oamSearch => 2#8 | .transfer => 3#8)
       else 0#8) ∧
    (∀ r ∈ ([(0xFF04, s.timer.counter.extractLsb' 8 8), (0xFF05, s.timer.tima), (0xFF06, s.timer.tma),
        (0xFF07, 0xF8#8 ||| s.timer.tac.setWidth 8)] : List (Word × Byte)), s.memRead r.1 = r.2) ∧
    ((0xFF01 ≤ a.toNat ∧ a.toNat ≤ 0xFF03) ∨ (0xFF08 ≤ a.toNat ∧ a.toNat ≤ 0xFF0E) ∨
        (0xFF4C ≤ a.toNat ∧ a.toNat ≤ 0xFF7F) → s.memRead a = 0xFF)

/-- 20_memory.md R92, R96, 60_exceptions.md R412, R445, 62_ppu.md R480, R483; the IF bits are decision D20 of the spec, the addresses with no register D21, the register addresses D22, the bits of STAT D23, the ignored write of LY D24. -/
def Obligations.PlainWrites : Prop :=
  ∀ (s : State) (a : Word) (v : Byte),
    (0x8000 ≤ a.toNat → a.toNat ≤ 0x9FFF →
      (s.ppu.mode = .transfer → s.memWrite a v = s) ∧
      (s.ppu.mode ≠ .transfer → s.memWrite a v = { s with ram := s.ram.write a.toNat v } ∧
        (s.memWrite a v).memRead a = v)) ∧
    ((0xC000 ≤ a.toNat ∧ a.toNat ≤ 0xDFFF) ∨ (0xFF80 ≤ a.toNat ∧ a.toNat ≤ 0xFFFE) →
      s.memWrite a v = { s with ram := s.ram.write a.toNat v } ∧ (s.memWrite a v).memRead a = v) ∧
    (0xC000 ≤ a.toNat → a.toNat ≤ 0xDDFF → (s.memWrite a v).memRead (a + 0x2000) = v) ∧
    (0xE000 ≤ a.toNat → a.toNat ≤ 0xFDFF →
      s.memWrite a v = { s with ram := s.ram.write (a.toNat - 0x2000) v } ∧ (s.memWrite a v).memRead a = v ∧
      (s.memWrite a v).memRead (a - 0x2000) = v) ∧
    (a = 0xFFFF → s.memWrite a v = { s with ie := v } ∧ (s.memWrite a v).memRead a = v) ∧
    (a = 0xFF0F → s.memWrite a v = { s with iflag := v.extractLsb' 0 5 } ∧
      (s.memWrite a v).memRead a = 0xE0#8 ||| v) ∧
    s.memWrite 0xFF41 v = { s with ppu := { s.ppu with statEnables := v.extractLsb' 3 4 } } ∧
    s.memWrite 0xFF44 v = s ∧
    (∀ r ∈ ([(0xFF42, { s.ppu with scy := v }), (0xFF43, { s.ppu with scx := v }), (0xFF45, { s.ppu with lyc := v }),
        (0xFF47, { s.ppu with bgp := v }), (0xFF48, { s.ppu with obp0 := v }), (0xFF49, { s.ppu with obp1 := v }),
        (0xFF4A, { s.ppu with wy := v }), (0xFF4B, { s.ppu with wx := v })] : List (Word × Ppu)),
      s.memWrite r.1 v = { s with ppu := r.2 } ∧ (s.memWrite r.1 v).memRead r.1 = v) ∧
    ((0xFF01 ≤ a.toNat ∧ a.toNat ≤ 0xFF03) ∨ (0xFF08 ≤ a.toNat ∧ a.toNat ≤ 0xFF0E) ∨
        (0xFF4C ≤ a.toNat ∧ a.toNat ≤ 0xFF7F) ∨ (0xFEA0 ≤ a.toNat ∧ a.toNat ≤ 0xFEFF) → s.memWrite a v = s)

/-- 20_memory.md R94, R95, R104. The byte the OAM bug stores is decision D31 of the spec, the immediate copy that bypasses the gates D32. -/
def Obligations.OamWritesAndDma : Prop :=
  (∀ (s : State) (a : Word) (v : Byte), 0xFE00 ≤ a.toNat → a.toNat ≤ 0xFE9F →
    (s.ppu.mode = .transfer → s.memWrite a v = s) ∧
    (s.ppu.mode = .oamSearch → s.memWrite a v =
      { s with ram := s.ram.write a.toNat (s.ram.read (0xFE00 + (4 * (s.ppu.cycleCount / 2) + s.ppu.cycleCount % 2))) } ∧
      (s.ppu.Inv s.params → 4 * (s.ppu.cycleCount / 2) + s.ppu.cycleCount % 2 < 160)) ∧
    (s.ppu.mode = .hblank ∨ s.ppu.mode = .vblank → s.memWrite a v = { s with ram := s.ram.write a.toNat v })) ∧
  (∀ (s : State) (v : Byte), ∃ m : Memory,
    s.memWrite 0xFF46 v = { s with ppu := { s.ppu with dma := v }, ram := m } ∧
    (∀ i : Nat, i < 160 →
      m.read (0xFE00 + i) = State.memRead { s with ppu := { s.ppu with dma := v } } (v ++ BitVec.ofNat 8 i)) ∧
    (∀ y : Nat, y < 0xFE00 ∨ 0xFEA0 ≤ y → m.read y = s.ram.read y))

/-- 20_memory.md R76, R91: a write reaches only the bytes, the controller registers, the devices, IE and IF; ROM is never mutated. -/
def Obligations.StoreKeepsRest : Prop :=
  ∀ (s : State) (a : Word) (v : Byte),
    (s.memWrite a v).rest = s.rest ∧ (s.memWrite a v).cart.mbc.kind = s.cart.mbc.kind

/-- 20_memory.md R76 and R90 to R96: the side effects of a write are the listed ones. -/
def Obligations.StoreReach : Prop :=
  ∀ (s : State) (a y : Word) (v : Byte), s.storeReaches a y = false → (s.memWrite a v).memRead y = s.memRead y

/-- The memory frame of every instruction, over the addresses storeAddresses computes as the meaning does. -/
def Obligations.InstructionFrame : Prop :=
  ∀ (i : Instr) (s t : State) (y : Word), exec i s = .next t →
    (∀ a ∈ storeAddresses i s, s.storeReaches a y = false) → t.memRead y = s.memRead y

/-- 60_exceptions.md R441 and R443, 20_memory.md R97; the composition is decision D25 of the spec, the request D26. The queue is a field of the model (log entry 9). -/
def Obligations.JoypadRegister : Prop :=
  ∀ (s : State) (v b : Byte),
    ((s.memRead 0xFF00).getLsbD 7 = true ∧ (s.memRead 0xFF00).getLsbD 6 = true ∧
      (s.memRead 0xFF00).getLsbD 5 = s.joypSelect.getLsbD 1 ∧ (s.memRead 0xFF00).getLsbD 4 = s.joypSelect.getLsbD 0 ∧
      ∀ k : Nat, k < 4 → ((s.memRead 0xFF00).getLsbD k = false ↔
        (s.joypSelect.getLsbD 0 = false ∧ s.buttons.getLsbD k = false) ∨
        (s.joypSelect.getLsbD 1 = false ∧ s.buttons.getLsbD (k + 4) = false))) ∧
    s.memWrite 0xFF00 v = { s with joypSelect := v.extractLsb' 4 2 } ∧
    (s.queueInput b).applyInputs = s.applyInputs.applyInput b ∧
    ((∃ k : Fin 8, s.buttons.getLsbD k.val = true ∧ b.getLsbD k.val = false) →
      s.applyInput b = { s with buttons := b, iflag := s.iflag ||| 16#5 }) ∧
    ((∀ k : Fin 8, s.buttons.getLsbD k.val = true → b.getLsbD k.val = true) → s.applyInput b = { s with buttons := b })

/-- 61_timer.md R463 to R466; the edge of a DIV write is decision D28 of the spec, the cancelled request D29. -/
def Obligations.TimerRegisterWrites : Prop :=
  ∀ (s : State) (v : Byte),
    s.memWrite 0xFF05 v = { s with timer := { s.timer with tima := v, reloadCountdown := 0 } } ∧
    s.memWrite 0xFF06 v = { s with timer := { s.timer with tma := v } } ∧
    (∀ (a : Word) (base : Timer) (sig : Bool),
      (a = 0xFF07 ∧ base = { s.timer with tac := v.extractLsb' 0 3 } ∧
        sig = (v.getLsbD 2 && s.timer.counter.getLsbD
          (match v.toNat % 4 with | 0 => 9 | 1 => 3 | 2 => 5 | _ => 7))) ∨
      (a = 0xFF04 ∧ base = { s.timer with counter := 0 } ∧ sig = false) →
      (s.timer.prevSignal = true → sig = false →
        (s.timer.tima ≠ 0xFF → s.memWrite a v =
          { s with timer := { base with tima := s.timer.tima + 1, prevSignal := sig } }) ∧
        (s.timer.tima = 0xFF → s.params.timerReload = .delayed → s.memWrite a v =
          { s with timer := { base with tima := 0, reloadCountdown := 4, prevSignal := sig } }) ∧
        (s.timer.tima = 0xFF → s.params.timerReload = .immediate → s.memWrite a v =
          { s with timer := { base with tima := s.timer.tma, prevSignal := sig }, iflag := s.iflag ||| 4#5 })) ∧
      (s.timer.prevSignal = false ∨ sig = true →
        s.memWrite a v = { s with timer := { base with prevSignal := sig } }))

/-- 61_timer.md R460 and R462; the periods are the derivation of R460. -/
def Obligations.TimerCounts : Prop :=
  ∀ (p : Params) (t : Timer) (iflag : BitVec 5) (n : Nat),
    (Timer.advance p n (t, iflag)).1.counter = t.counter + BitVec.ofNat 16 n ∧
    (Timer.advance p n (t, iflag)).1.tac = t.tac ∧ (Timer.advance p n (t, iflag)).1.tma = t.tma ∧
    (∀ period : Nat, period = (match t.tac.toNat % 4 with | 0 => 1024 | 1 => 16 | 2 => 64 | _ => 256) →
      t.tac.getLsbD 2 = true → t.prevSignal = t.signal → t.reloadCountdown = 0 →
      t.tima.toNat + (t.counter.toNat % period + n) / period ≤ 255 →
      (Timer.advance p n (t, iflag)).1.tima.toNat = t.tima.toNat + (t.counter.toNat % period + n) / period ∧
      (Timer.advance p n (t, iflag)).1.reloadCountdown = 0 ∧ (Timer.advance p n (t, iflag)).2 = iflag) ∧
    (t.tac.getLsbD 2 = false → t.prevSignal = false → t.reloadCountdown = 0 →
      (Timer.advance p n (t, iflag)).1.tima = t.tima ∧ (Timer.advance p n (t, iflag)).2 = iflag)

/-- 61_timer.md R465 to R467 at any counter and any TMA; the delay is decision D30 of the spec, the cancelled request D29. -/
def Obligations.TimerReload : Prop :=
  ∀ (p : Params) (t : Timer) (iflag : BitVec 5) (v : Byte),
    t.counter.toNat % 16 = 0 → t.tac = 5 → t.prevSignal = false → t.tima = 0xFF → t.reloadCountdown = 0 →
    (p.timerReload = .delayed →
      (∀ n : Nat, 16 ≤ n → n < 20 → ∃ w : Timer, Timer.advance p n (t, iflag) = (w, iflag) ∧ w.tima = 0 ∧
        (Timer.advance p (20 - n) (w.writeTima v, iflag)).1.tima = v ∧
        (Timer.advance p (20 - n) (w.writeTima v, iflag)).2 = iflag ∧
        (Timer.advance p (20 - n) (w.writeTma v, iflag)).1.tima = v ∧
        (Timer.advance p (20 - n) (w.writeTma v, iflag)).2 = iflag ||| 4#5) ∧
      (Timer.advance p 20 (t, iflag)).1.tima = t.tma ∧ (Timer.advance p 20 (t, iflag)).2 = iflag ||| 4#5) ∧
    (p.timerReload = .immediate →
      (Timer.advance p 16 (t, iflag)).1.tima = t.tma ∧ (Timer.advance p 16 (t, iflag)).2 = iflag ||| 4#5)

/-- 62_ppu.md R485, in the tick of R484, with the window line counter of R484 and R500. -/
def Obligations.ScanlineTick : Prop :=
  ∀ (mem : Memory) (p : Ppu) (iflag : BitVec 5), p.lcdOn = true → p.enableDelay = 0 → p.cycleCount < 456 →
    p.ly.toNat < 154 → ∀ q : Ppu, q = (p.tick mem iflag).1 →
    q.cycleCount = (if p.cycleCount = 455 then 0 else p.cycleCount + 1) ∧
    q.ly.toNat = (if p.cycleCount = 455 then (if p.ly.toNat = 153 then 0 else p.ly.toNat + 1) else p.ly.toNat) ∧
    q.lcdc = p.lcdc ∧ q.enableDelay = 0 ∧
    (q.ly.toNat ≤ 143 → q.cycleCount ≤ 79 → q.mode = .oamSearch) ∧
    (q.ly.toNat ≤ 143 → 80 ≤ q.cycleCount → q.cycleCount ≤ 251 → q.mode = .transfer) ∧
    (q.ly.toNat ≤ 143 → 252 ≤ q.cycleCount → q.mode = .hblank) ∧
    (144 ≤ q.ly.toNat → q.mode = .vblank) ∧
    (p.cycleCount = 455 → q.windowDrawn = false ∧
      q.windowLine = (if p.ly.toNat = 153 then 0 else if p.windowDrawn then p.windowLine + 1 else p.windowLine)) ∧
    (p.cycleCount < 455 → q.windowLine = p.windowLine ∧
      (q.mode ≠ .transfer ∨ p.mode = .transfer → q.windowDrawn = p.windowDrawn))

/-- 62_ppu.md R484, whose derivation gives the length of a scanline and of a frame. -/
def Obligations.FramePosition : Prop :=
  ∀ (mem : Memory) (p : Ppu) (iflag : BitVec 5) (n : Nat), p.lcdOn = true → p.enableDelay = 0 → p.cycleCount < 456 →
    p.ly.toNat < 154 → ∀ q : Ppu, q = (Ppu.advance mem n (p, iflag)).1 →
    q.lcdOn = true ∧ q.enableDelay = 0 ∧ q.cycleCount < 456 ∧ q.ly.toNat < 154 ∧
    456 * q.ly.toNat + q.cycleCount = (456 * p.ly.toNat + p.cycleCount + n) % 70224

/-- 62_ppu.md R484, R486, R487, R488; the order within a tick is decision D19 of the spec, the presented frame D34. -/
def Obligations.PpuInterrupts : Prop :=
  ∀ (params : Params) (mem : Memory) (p : Ppu) (iflag : BitVec 5), p.Inv params → p.lcdOn = true → p.enableDelay = 0 →
    ∀ ly cycle : Nat, cycle = (p.cycleCount + 1) % 456 →
    ly = (if p.cycleCount + 1 = 456 then (p.ly.toNat + 1) % 154 else p.ly.toNat) →
    (p.tick mem iflag).2 = iflag ||| (if ly = 144 ∧ cycle = 0 then 1#5 else 0#5) |||
      (if (p.statEnables.getLsbD 1 = true ∧ ly = 144 ∧ cycle = 0) ∨
          (p.statEnables.getLsbD 2 = true ∧ ly < 144 ∧ cycle = 0) ∨
          (p.statEnables.getLsbD 0 = true ∧ ly < 144 ∧ cycle = 252) ∨
          (p.statEnables.getLsbD 3 = true ∧ cycle = 0 ∧ p.coincidence = false ∧ ly = p.lyc.toNat) then 2#5 else 0#5) ∧
    (p.tick mem iflag).1.coincidence = (if cycle = 0 then decide (ly = p.lyc.toNat) else p.coincidence) ∧
    (p.tick mem iflag).1.presentedFrame = (if ly = 144 ∧ cycle = 0 then p.framebuffer else p.presentedFrame)

/-- 62_ppu.md R490 to R492; the recomputed bit is decision D34 of the spec, the open delay D33 (log entry 3). -/
def Obligations.LcdSwitch : Prop :=
  ∀ (s : State) (v : Byte),
    (s.ppu.lcdc.getLsbD 7 = true → v.getLsbD 7 = false → s.memWrite 0xFF40 v = { s with ppu := { s.ppu with
      lcdc := v, ly := 0, mode := .hblank, cycleCount := 0, windowLine := 0, windowDrawn := false, enableDelay := 0,
      coincidence := decide (s.ppu.lyc = 0) } }) ∧
    (s.ppu.Inv s.params → s.ppu.lcdc.getLsbD 7 = false → v.getLsbD 7 = true → ∀ newly : Bool,
      newly = (s.ppu.statEnables.getLsbD 3 && !s.ppu.coincidence && decide (s.ppu.lyc = 0)) →
      (s.params.lcdEnable = .none → s.memWrite 0xFF40 v =
        { s with ppu := { s.ppu with lcdc := v, mode := .oamSearch, coincidence := decide (s.ppu.lyc = 0) },
                 iflag := if newly || s.ppu.statEnables.getLsbD 2 then s.iflag ||| 2#5 else s.iflag }) ∧
      (s.params.lcdEnable = .four → s.memWrite 0xFF40 v =
        { s with ppu := { s.ppu with lcdc := v, enableDelay := 4, coincidence := decide (s.ppu.lyc = 0) },
                 iflag := if newly then s.iflag ||| 2#5 else s.iflag } ∧
        ∀ (w : State) (n : Nat), w = s.memWrite 0xFF40 v → n < 4 →
          Ppu.advance s.ram n (w.ppu, w.iflag) = ({ w.ppu with enableDelay := 4 - n }, w.iflag) ∧
          Ppu.advance s.ram 4 (w.ppu, w.iflag) = ({ w.ppu with enableDelay := 0, mode := .oamSearch },
            if s.ppu.statEnables.getLsbD 2 then w.iflag ||| 2#5 else w.iflag))) ∧
    (s.ppu.lcdc.getLsbD 7 = v.getLsbD 7 → s.memWrite 0xFF40 v = { s with ppu := { s.ppu with
      lcdc := v,
      windowLine := if s.ppu.lcdc.getLsbD 5 = false ∧ v.getLsbD 5 = true then 0 else s.ppu.windowLine } }) ∧
    (s.ppu.lcdc.getLsbD 7 = false → ∀ (mem : Memory) (n : Nat), Ppu.advance mem n (s.ppu, s.iflag) =
      ({ s.ppu with lcdOffCycles := s.ppu.lcdOffCycles + n }, s.iflag))

/-- 62_ppu.md R495 to R501, R504, R506, R507; that the window ignores LCDC.0 is decision D36 of the spec, the layouts D37, that a hidden sprite ends the walk D38. The list of sprites is that of LineSprites. -/
def Obligations.RenderedLine : Prop :=
  ∀ (mem : Memory) (p : Ppu) (x : Nat) (q : Ppu), x < 160 → p.ly.toNat < 144 → p.framebuffer.length = 144 →
    q = p.enterTransfer mem → ∀ (visible win : Bool) (u v base tile t h : Nat) (bg : BitVec 2) (pix : Sprite → BitVec 2),
    visible = decide (p.lcdc.getLsbD 5 = true ∧ p.wy.toNat ≤ p.ly.toNat ∧ p.wx.toNat ≤ 166) →
    win = (visible && decide (p.wx.toNat ≤ x + 7)) →
    u = (if win then x + 7 - p.wx.toNat else (x + p.scx.toNat) % 256) →
    v = (if win then p.windowLine.toNat else (p.ly.toNat + p.scy.toNat) % 256) →
    base = (if (if win then p.lcdc.getLsbD 6 else p.lcdc.getLsbD 3) then 0x9C00 else 0x9800) →
    tile = (mem.read (base + 32 * (v / 8) + u / 8)).toNat →
    t = (if p.lcdc.getLsbD 4 then 0x8000 + 16 * tile
         else if tile < 128 then 0x9000 + 16 * tile else 0x9000 + 16 * tile - 0x1000) →
    bg = (if win = true ∨ p.lcdc.getLsbD 0 = true then
            BitVec.ofBool ((mem.read (t + 2 * (v % 8) + 1)).getLsbD (7 - u % 8)) ++
              BitVec.ofBool ((mem.read (t + 2 * (v % 8))).getLsbD (7 - u % 8))
          else 0#2) →
    h = (if p.lcdc.getLsbD 2 then 16 else 8) →
    (∀ (s : Sprite) (row col k : Nat),
      row = (if s.attr.getLsbD 6 then h - 1 - (p.ly.toNat + 16 - s.y) else p.ly.toNat + 16 - s.y) →
      col = (if s.attr.getLsbD 5 then 7 - (x + 8 - s.x) else x + 8 - s.x) →
      k = (if h = 16 then s.tile - s.tile % 2 else s.tile) →
      pix s = (if s.x ≤ x + 8 ∧ x < s.x then
          BitVec.ofBool ((mem.read (0x8000 + 16 * k + 2 * row + 1)).getLsbD (7 - col)) ++
            BitVec.ofBool ((mem.read (0x8000 + 16 * k + 2 * row)).getLsbD (7 - col))
        else 0#2)) →
    q.bgId.getD x 0 = bg ∧ q.windowDrawn = (p.windowDrawn || visible) ∧
    ((∀ s ∈ p.lineSprites mem, pix s = 0) →
      (q.framebuffer.getD p.ly.toNat []).getD x 0 = (p.bgp >>> (2 * bg.toNat)).extractLsb' 0 2) ∧
    (∀ (before after : List Sprite) (s : Sprite), p.lineSprites mem = before ++ s :: after →
      (∀ r ∈ before, pix r = 0) → pix s ≠ 0 →
      (q.framebuffer.getD p.ly.toNat []).getD x 0 =
        (if s.attr.getLsbD 7 = true ∧ bg ≠ 0 then p.bgp >>> (2 * bg.toNat)
         else (if s.attr.getLsbD 4 then p.obp1 else p.obp0) >>> (2 * (pix s).toNat)).extractLsb' 0 2) ∧
    ∀ line : Nat, line ≠ p.ly.toNat → q.framebuffer.getD line [] = p.framebuffer.getD line []

/-- 62_ppu.md R502 and R503; that the selection ignores X is decision D39 of the spec. -/
def Obligations.LineSprites : Prop :=
  ∀ (mem : Memory) (p : Ppu) (height : Nat) (covering : List Nat), height = (if p.lcdc.getLsbD 2 then 16 else 8) →
    covering = (List.range 40).filter (fun i => decide ((mem.read (0xFE00 + 4 * i)).toNat ≠ 0 ∧
      (mem.read (0xFE00 + 4 * i)).toNat ≤ p.ly.toNat + 16 ∧
      p.ly.toNat + 16 < (mem.read (0xFE00 + 4 * i)).toNat + height)) →
    (p.lineSprites mem).length ≤ 10 ∧
    (p.lcdc.getLsbD 1 = false → p.lineSprites mem = []) ∧
    (p.lcdc.getLsbD 1 = true → ∃ order : List Nat,
      order.Perm (covering.take 10) ∧
      order.Pairwise (fun i j => (mem.read (0xFE00 + 4 * i + 1)).toNat < (mem.read (0xFE00 + 4 * j + 1)).toNat ∨
        ((mem.read (0xFE00 + 4 * i + 1)).toNat = (mem.read (0xFE00 + 4 * j + 1)).toNat ∧ i < j)) ∧
      p.lineSprites mem = order.map (fun i =>
        { y := (mem.read (0xFE00 + 4 * i)).toNat, x := (mem.read (0xFE00 + 4 * i + 1)).toNat,
          tile := (mem.read (0xFE00 + 4 * i + 2)).toNat, attr := mem.read (0xFE00 + 4 * i + 3) }))

/-- 63_apu.md R540 to R545, R553, R560; the masks are decision D42 of the spec, the DAC check D43, the gate D53, the DAC that goes off D59. That a write of NR11, NR21, NR31 or NR41 while the power is off keeps the remembered field L is the choice of the model (log entry 10, DEDUCED), and that a write of NR13 or NR23 keeps the three high bits the sweep may have written (log entry 19). -/
def Obligations.ApuRegisters : Prop :=
  (∀ (params : Params) (a : Apu) (reg : Nat) (v : Byte),
    (∀ r ∈ ([(0x10, 0x80#8 ||| a.sweep.nr10.setWidth 8), (0x11, a.ch1.duty.setWidth 8 <<< 6 ||| 0x3F), (0x12, a.ch1.nrx2),
        (0x14, if a.ch1.lengthEnable then 0xFF#8 else 0xBF#8), (0x16, a.ch2.duty.setWidth 8 <<< 6 ||| 0x3F),
        (0x17, a.ch2.nrx2), (0x19, if a.ch2.lengthEnable then 0xFF#8 else 0xBF#8),
        (0x1A, if a.ch3.dacOn then 0xFF#8 else 0x7F#8), (0x1C, a.ch3.volumeCode.setWidth 8 <<< 5 ||| 0x9F),
        (0x1E, if a.ch3.lengthEnable then 0xFF#8 else 0xBF#8), (0x21, a.ch4.nr42), (0x22, a.ch4.nr43),
        (0x23, if a.ch4.lengthEnable then 0xFF#8 else 0xBF#8), (0x24, a.nr50), (0x25, a.nr51),
        (0x26, 0x70#8 ||| (if a.power then 0x80#8 else 0#8) ||| (if a.ch4.enabled then 8#8 else 0#8) |||
          (if a.ch3.enabled then 4#8 else 0#8) ||| (if a.ch2.enabled then 2#8 else 0#8) |||
          (if a.ch1.enabled then 1#8 else 0#8))] : List (Nat × Byte)), a.read r.1 = r.2) ∧
    (reg ∈ [0x13, 0x15, 0x18, 0x1B, 0x1D, 0x1F, 0x20, 0x27, 0x28, 0x29, 0x2A, 0x2B, 0x2C, 0x2D, 0x2E, 0x2F] →
      a.read reg = 0xFF) ∧
    (a.power = true → ∀ dac : Bool, dac = decide ((match params.dacCheck with
        | .nibble => v.toNat / 16 | .fiveBits => v.toNat / 8) ≠ 0) →
      (∀ r ∈ ([(0x10, { a with sweep := { a.sweep with nr10 := v.extractLsb' 0 7 } }),
        (0x11, { a with ch1 := { a.ch1 with
          duty := v.extractLsb' 6 2, lengthLoad := v.extractLsb' 0 6, length := 64 - v.toNat % 64 } }),
        (0x12, { a with ch1 := { a.ch1 with nrx2 := v, enabled := a.ch1.enabled && dac } }),
        (0x13, { a with ch1 := { a.ch1 with frequency := a.ch1.frequency &&& 0x700#11 ||| v.setWidth 11 } }),
        (0x16, { a with ch2 := { a.ch2 with
          duty := v.extractLsb' 6 2, lengthLoad := v.extractLsb' 0 6, length := 64 - v.toNat % 64 } }),
        (0x17, { a with ch2 := { a.ch2 with nrx2 := v, enabled := a.ch2.enabled && dac } }),
        (0x18, { a with ch2 := { a.ch2 with frequency := a.ch2.frequency &&& 0x700#11 ||| v.setWidth 11 } }),
        (0x1A, { a with ch3 := { a.ch3 with dacOn := v.getLsbD 7, enabled := a.ch3.enabled && v.getLsbD 7 } }),
        (0x1B, { a with ch3 := { a.ch3 with lengthLoad := v, length := 256 - v.toNat } }),
        (0x1C, { a with ch3 := { a.ch3 with volumeCode := v.extractLsb' 5 2 } }),
        (0x1D, { a with ch3 := { a.ch3 with frequency := a.ch3.frequency &&& 0x700#11 ||| v.setWidth 11 } }),
        (0x20, { a with ch4 := { a.ch4 with lengthLoad := v.extractLsb' 0 6, length := 64 - v.toNat % 64 } }),
        (0x21, { a with ch4 := { a.ch4 with nr42 := v, enabled := a.ch4.enabled && dac } }),
        (0x22, { a with ch4 := { a.ch4 with nr43 := v } }), (0x24, { a with nr50 := v &&& 0x77 }),
        (0x25, { a with nr51 := v })] : List (Nat × Apu)), a.write params r.1 v = r.2) ∧
      (reg ∈ [0x15, 0x1F, 0x27, 0x28, 0x29, 0x2A, 0x2B, 0x2C, 0x2D, 0x2E, 0x2F] → a.write params reg v = a) ∧
      (v.getLsbD 7 = true → a.write params 0x26 v = a)) ∧
    (a.power = false → v.getLsbD 7 = true → a.write params 0x26 v =
      { a with power := true, fsCounter := 0, fsStep := 0, ch1 := { a.ch1 with dutyPos := 0 },
               ch2 := { a.ch2 with dutyPos := 0 } }) ∧
    (a.power = false →
      (reg ≠ 0x11 → reg ≠ 0x16 → reg ≠ 0x1B → reg ≠ 0x20 → reg ≠ 0x26 → a.write params reg v = a) ∧
      a.write params 0x11 v = { a with ch1 := { a.ch1 with length := 64 - v.toNat % 64 } } ∧
      a.write params 0x16 v = { a with ch2 := { a.ch2 with length := 64 - v.toNat % 64 } } ∧
      a.write params 0x1B v = { a with ch3 := { a.ch3 with length := 256 - v.toNat } } ∧
      a.write params 0x20 v = { a with ch4 := { a.ch4 with length := 64 - v.toNat % 64 } } ∧
      (v.getLsbD 7 = false → a.write params 0x26 v = a)) ∧
    (a.power = true → v.getLsbD 7 = false → ∀ b : Apu, b = a.write params 0x26 v →
      b.power = false ∧ b.fsStep = 0 ∧ b.fsCounter = 0 ∧
      b.ch1.enabled = false ∧ b.ch2.enabled = false ∧ b.ch3.enabled = false ∧ b.ch4.enabled = false ∧
      b.ch1.length = a.ch1.length ∧ b.ch2.length = a.ch2.length ∧ b.ch3.length = a.ch3.length ∧
      b.ch4.length = a.ch4.length ∧
      b.read reg = (match reg with
        | 0x10 => 0x80#8 | 0x11 => 0x3F#8 | 0x12 => 0x00#8 | 0x14 => 0xBF#8
        | 0x16 => 0x3F#8 | 0x17 => 0x00#8 | 0x19 => 0xBF#8
        | 0x1A => 0x7F#8 | 0x1C => 0x9F#8 | 0x1E => 0xBF#8
        | 0x21 => 0x00#8 | 0x22 => 0x00#8 | 0x23 => 0xBF#8
        | 0x24 => 0x00#8 | 0x25 => 0x00#8 | 0x26 => 0x70#8 | _ => 0xFF#8))) ∧
  (∀ (s : State) (a : Word) (v : Byte),
    (0xFF10 ≤ a.toNat → a.toNat ≤ 0xFF2F → s.memRead a = s.apu.read (a.toNat - 0xFF00) ∧
      s.memWrite a v = { s with apu := s.apu.write s.params (a.toNat - 0xFF00) v }) ∧
    (0xFF30 ≤ a.toNat → a.toNat ≤ 0xFF3F → s.memRead a = s.ram.read a.toNat ∧
      s.memWrite a v = { s with ram := s.ram.write a.toNat v } ∧ (s.memWrite a v).memRead a = v))

/-- 63_apu.md R550 to R552, R554 (whose example stands second), R556 to R559, R561 to R563 and the DAC test of R541; the own counter of the sequencer is decision D41 of the spec, the DAC check D43, the reload D54, the counting D55, the guard of the sweep D57, the divisor code of the noise period D58. That a write of NR14 keeps the low eight frequency bits whoever wrote them last, the write-back of the sweep included, is the choice of the model (log entry 19, DEDUCED, unsafe). A sweep counter or a channel timer that holds 0 is left out, since a decrement of it gives a free value (log entry 11). -/
def Obligations.ApuSequencerAndChannels : Prop :=
  (∀ (mem : Memory) (a b : Apu) (n : Nat), a.power = true → a.fsCounter < 8192 → a.fsStep < 8 → b = Apu.advance mem n a →
    b.power = true ∧ b.fsCounter < 8192 ∧ b.fsStep < 8 ∧
    b.fsStep * 8192 + b.fsCounter = (a.fsStep * 8192 + a.fsCounter + n) % 65536) ∧
  (∀ (params : Params) (a b : Apu), a.power = true → a.sweep.nr10 = 0 →
    b = ((a.write params 0x11 0x3F).write params 0x12 0xF0).write params 0x14 0xC0 →
    b.ch1.enabled = true ∧ b.ch1.length = 1 ∧ (b.read 0x26).getLsbD 0 = true ∧
    (Apu.runStep 0 b).ch1.enabled = false ∧ (Apu.runStep 0 b).ch1.length = 0 ∧
    ((Apu.runStep 0 b).read 0x26).getLsbD 0 = false) ∧
  (∀ a : Apu,
    Apu.runStep 0 a = a.tickLengths ∧ Apu.runStep 1 a = a ∧ Apu.runStep 2 a = a.tickLengths.tickSweep ∧
    Apu.runStep 3 a = a ∧ Apu.runStep 4 a = a.tickLengths ∧ Apu.runStep 5 a = a ∧
    Apu.runStep 6 a = a.tickLengths.tickSweep ∧ Apu.runStep 7 a = a.tickEnvelopes) ∧
  (∀ (a : Apu) (len : Bool → Nat → Nat) (live : Bool → Nat → Bool),
    (∀ en n, len en n = if en then n - 1 else n) → (∀ en n, live en n = !(en && decide (n = 1))) →
    a.tickLengths = { a with
      ch1 := { a.ch1 with length := len a.ch1.lengthEnable a.ch1.length,
                          enabled := a.ch1.enabled && live a.ch1.lengthEnable a.ch1.length },
      ch2 := { a.ch2 with length := len a.ch2.lengthEnable a.ch2.length,
                          enabled := a.ch2.enabled && live a.ch2.lengthEnable a.ch2.length },
      ch3 := { a.ch3 with length := len a.ch3.lengthEnable a.ch3.length,
                          enabled := a.ch3.enabled && live a.ch3.lengthEnable a.ch3.length },
      ch4 := { a.ch4 with length := len a.ch4.lengthEnable a.ch4.length,
                          enabled := a.ch4.enabled && live a.ch4.lengthEnable a.ch4.length } }) ∧
  (∀ (a : Apu) (period shift reload : Nat) (newFreq : Nat → Nat),
    period = a.sweep.nr10.toNat / 16 → shift = a.sweep.nr10.toNat % 8 → reload = (if period = 0 then 8 else period) →
    (∀ f, newFreq f = if a.sweep.nr10.getLsbD 3 then f - f / 2 ^ shift else f + f / 2 ^ shift) →
    (2 ≤ a.sweep.counter → a.tickSweep = { a with sweep := { a.sweep with counter := a.sweep.counter - 1 } }) ∧
    (a.sweep.counter = 1 → ∀ f : Nat, f = newFreq a.sweep.shadow.toNat →
      ((a.sweep.enabled = false ∨ period = 0 ∨ (f ≤ 2047 ∧ shift = 0)) →
        a.tickSweep = { a with sweep := { a.sweep with counter := reload } }) ∧
      (a.sweep.enabled = true → period ≠ 0 → 2047 < f →
        a.tickSweep = { a with sweep := { a.sweep with counter := reload }, ch1 := { a.ch1 with enabled := false } }) ∧
      (a.sweep.enabled = true → period ≠ 0 → f ≤ 2047 → shift ≠ 0 →
        a.tickSweep = { a with
          sweep := { a.sweep with counter := reload, shadow := BitVec.ofNat 11 f },
          ch1 := { a.ch1 with frequency := BitVec.ofNat 11 f,
                              enabled := a.ch1.enabled && decide (newFreq f ≤ 2047) } }))) ∧
  (∀ (a : Apu) (next : Byte → Envelope → Envelope),
    (∀ (r : Byte) (e : Envelope),
      (r.toNat % 8 = 0 → next r e = e) ∧
      (r.toNat % 8 ≠ 0 → 2 ≤ e.counter.toNat → next r e = { e with counter := e.counter - 1 }) ∧
      (r.toNat % 8 ≠ 0 → e.counter.toNat < 2 → ∀ vol : Nat,
        vol = (if r.getLsbD 3 then min 15 (e.volume.toNat + 1) else e.volume.toNat - 1) →
        next r e = { counter := r.extractLsb' 0 3, volume := BitVec.ofNat 4 vol })) →
    a.tickEnvelopes = { a with ch1 := { a.ch1 with envelope := next a.ch1.nrx2 a.ch1.envelope },
                               ch2 := { a.ch2 with envelope := next a.ch2.nrx2 a.ch2.envelope },
                               ch4 := { a.ch4 with envelope := next a.ch4.nr42 a.ch4.envelope } }) ∧
  (∀ (params : Params) (a : Apu) (v : Byte) (extra : Bool → Nat → Bool) (count : Bool → Nat → Nat)
      (dac : Byte → Bool) (freq : BitVec 11 → BitVec 11),
    a.power = true →
    (∀ was n, extra was n = (decide (was = false) && v.getLsbD 6 && decide (a.fsStep % 2 = 1) && decide (0 < n))) →
    (∀ was n, count was n = if extra was n then n - 1 else n) →
    (∀ r, dac r = decide ((match params.dacCheck with | .nibble => r.toNat / 16 | .fiveBits => r.toNat / 8) ≠ 0)) →
    (∀ f, freq f = v.extractLsb' 0 3 ++ f.extractLsb' 0 8) →
    (v.getLsbD 7 = false → ∀ live : Bool → Nat → Bool, (∀ was n, live was n = !(extra was n && decide (n = 1))) →
      (∀ r ∈ ([(0x14, { a with ch1 := { a.ch1 with
          lengthEnable := v.getLsbD 6, frequency := freq a.ch1.frequency,
          length := count a.ch1.lengthEnable a.ch1.length,
          enabled := a.ch1.enabled && live a.ch1.lengthEnable a.ch1.length } }),
        (0x19, { a with ch2 := { a.ch2 with
          lengthEnable := v.getLsbD 6, frequency := freq a.ch2.frequency,
          length := count a.ch2.lengthEnable a.ch2.length,
          enabled := a.ch2.enabled && live a.ch2.lengthEnable a.ch2.length } }),
        (0x1E, { a with ch3 := { a.ch3 with
          lengthEnable := v.getLsbD 6, frequency := freq a.ch3.frequency,
          length := count a.ch3.lengthEnable a.ch3.length,
          enabled := a.ch3.enabled && live a.ch3.lengthEnable a.ch3.length } }),
        (0x23, { a with ch4 := { a.ch4 with
          lengthEnable := v.getLsbD 6, length := count a.ch4.lengthEnable a.ch4.length,
          enabled := a.ch4.enabled && live a.ch4.lengthEnable a.ch4.length } })] : List (Nat × Apu)),
        a.write params r.1 v = r.2)) ∧
    (v.getLsbD 7 = true → ∀ (full : Nat → Nat → Nat) (f : BitVec 11) (period shift : Nat) (tooHigh : Bool),
      (∀ n l, full n l = if n = 0 then l else n) → f = freq a.ch1.frequency →
      period = a.sweep.nr10.toNat / 16 → shift = a.sweep.nr10.toNat % 8 →
      tooHigh = (decide (shift ≠ 0) && decide (2047 < if a.sweep.nr10.getLsbD 3 then f.toNat - f.toNat / 2 ^ shift
        else f.toNat + f.toNat / 2 ^ shift)) →
      (∀ r ∈ ([(0x14, { a with
          ch1 := { a.ch1 with
            lengthEnable := v.getLsbD 6, frequency := f, enabled := (a.ch1.enabled || dac a.ch1.nrx2) && !tooHigh,
            length := full (count a.ch1.lengthEnable a.ch1.length) (64 - a.ch1.lengthLoad.toNat),
            timer := (2048 - f.toNat) * 4, dutyPos := 0,
            envelope := { volume := a.ch1.nrx2.extractLsb' 4 4, counter := a.ch1.nrx2.extractLsb' 0 3 } },
          sweep := { a.sweep with shadow := f, counter := if period = 0 then 8 else period,
                                  enabled := decide (period ≠ 0 ∨ shift ≠ 0) } }),
        (0x19, { a with ch2 := { a.ch2 with
          lengthEnable := v.getLsbD 6, frequency := freq a.ch2.frequency, enabled := a.ch2.enabled || dac a.ch2.nrx2,
          length := full (count a.ch2.lengthEnable a.ch2.length) (64 - a.ch2.lengthLoad.toNat),
          timer := (2048 - (freq a.ch2.frequency).toNat) * 4, dutyPos := 0,
          envelope := { volume := a.ch2.nrx2.extractLsb' 4 4, counter := a.ch2.nrx2.extractLsb' 0 3 } } }),
        (0x1E, { a with ch3 := { a.ch3 with
          lengthEnable := v.getLsbD 6, frequency := freq a.ch3.frequency, enabled := a.ch3.enabled || a.ch3.dacOn,
          length := full (count a.ch3.lengthEnable a.ch3.length) (256 - a.ch3.lengthLoad.toNat),
          timer := (2048 - (freq a.ch3.frequency).toNat) * 2, position := 0 } }),
        (0x23, { a with ch4 := { a.ch4 with
          lengthEnable := v.getLsbD 6, enabled := a.ch4.enabled || dac a.ch4.nr42,
          length := full (count a.ch4.lengthEnable a.ch4.length) (64 - a.ch4.lengthLoad.toNat),
          timer := (if a.ch4.nr43.toNat % 8 = 0 then 8 else 16 * (a.ch4.nr43.toNat % 8)) *
            2 ^ (a.ch4.nr43.toNat / 16 + 1),
          envelope := { volume := a.ch4.nr42.extractLsb' 4 4, counter := a.ch4.nr42.extractLsb' 0 3 },
          lfsr := 0x7FFF } })] : List (Nat × Apu)), a.write params r.1 v = r.2))) ∧
  (∀ (mem : Memory) (a w : Apu),
    w = (if a.fsCounter = 8191 then { Apu.runStep a.fsStep { a with fsCounter := 0 } with fsStep := (a.fsStep + 1) % 8 }
         else { a with fsCounter := a.fsCounter + 1 }) →
    (a.power = false → a.tick mem = a) ∧
    (a.power = true → a.tick mem =
      { w with ch1 := w.ch1.tickTimer 1, ch2 := w.ch2.tickTimer 2, ch3 := w.ch3.tickTimer mem, ch4 := w.ch4.tickTimer })) ∧
  (∀ (channel : Nat) (c : Pulse),
    (c.enabled = false → c.tickTimer channel = c) ∧
    (c.enabled = true → 2 ≤ c.timer → c.tickTimer channel = { c with timer := c.timer - 1 }) ∧
    (c.enabled = true → c.timer = 1 → c.tickTimer channel =
      { c with timer := (2048 - c.frequency.toNat) * 4, dutyPos := BitVec.ofNat 3 ((c.dutyPos.toNat + 1) % 8) })) ∧
  (∀ (mem : Memory) (c : Wave) (position : Nat) (b : Byte), position = (c.position.toNat + 1) % 32 →
    b = mem.read (0xFF30 + position / 2) →
    (c.enabled = false → c.tickTimer mem = c) ∧
    (c.enabled = true → 2 ≤ c.timer → c.tickTimer mem = { c with timer := c.timer - 1 }) ∧
    (c.enabled = true → c.timer = 1 → c.tickTimer mem =
      { c with timer := (2048 - c.frequency.toNat) * 2, position := BitVec.ofNat 5 position,
               sample := if position % 2 = 0 then b.extractLsb' 4 4 else b.extractLsb' 0 4 })) ∧
  (∀ (c : Noise) (next : BitVec 15),
    (∀ k : Nat, k < 15 → next.getLsbD k =
      if k = 14 ∨ (k = 6 ∧ c.nr43.getLsbD 3 = true) then (c.lfsr.getLsbD 0 ^^ c.lfsr.getLsbD 1)
      else c.lfsr.getLsbD (k + 1)) →
    (c.enabled = false → c.tickTimer = c) ∧
    (c.enabled = true → 2 ≤ c.timer → c.tickTimer = { c with timer := c.timer - 1 }) ∧
    (c.enabled = true → c.timer = 1 → c.tickTimer =
      { c with timer := (if c.nr43.toNat % 8 = 0 then 8 else 16 * (c.nr43.toNat % 8)) * 2 ^ (c.nr43.toNat / 16 + 1),
               lfsr := next }))

/-- 64_cartridge.md R592, R595 to R599; the decode is decision D61 of the spec. -/
def Obligations.BankRegisters : Prop :=
  ∀ (s : State) (a : Word) (v : Byte), a.toNat < 0x8000 → ∃ m : Mbc,
    s.memWrite a v = { s with cart := { s.cart with mbc := m } } ∧
    m = (match s.cart.mbc with
      | .none => .none
      | .mbc1 en lo hi mode =>
        (match a.toNat / 0x2000 with
          | 0 => .mbc1 (decide (v.toNat % 16 = 10)) lo hi mode
          | 1 => .mbc1 en (if v.toNat % 32 = 0 then 1 else BitVec.ofNat 5 v.toNat) hi mode
          | 2 => .mbc1 en lo (BitVec.ofNat 2 v.toNat) mode
          | _ => .mbc1 en lo hi (decide (v.toNat % 2 = 1)))
      | .mbc2 en bank =>
        if a.toNat < 0x4000 then
          if a.getLsbD 8 then .mbc2 en (if v.toNat % 16 = 0 then 1 else BitVec.ofNat 4 v.toNat)
          else .mbc2 (decide (v.toNat % 16 = 10)) bank
        else .mbc2 en bank
      | .mbc3 en bank ram =>
        (match a.toNat / 0x2000 with
          | 0 => .mbc3 (decide (v.toNat % 16 = 10)) bank ram
          | 1 => .mbc3 en (if v.toNat % 128 = 0 then 1 else BitVec.ofNat 7 v.toNat) ram
          | 2 => .mbc3 en bank v
          | _ => .mbc3 en bank ram)
      | .mbc5 en bank ram =>
        (match a.toNat / 0x1000 with
          | 0 => .mbc5 (decide (v.toNat % 16 = 10)) bank ram
          | 1 => .mbc5 (decide (v.toNat % 16 = 10)) bank ram
          | 2 => .mbc5 en (bank.extractLsb' 8 1 ++ v) ram
          | 3 => .mbc5 en (v.extractLsb' 0 1 ++ bank.extractLsb' 0 8) ram
          | 4 => .mbc5 en bank (BitVec.ofNat 4 v.toNat)
          | 5 => .mbc5 en bank (BitVec.ofNat 4 v.toNat)
          | _ => .mbc5 en bank ram))

/-- 20_memory.md R81, R83, R93; 64_cartridge.md R593 to R599: decisions D45 and D61 of the spec. -/
def Obligations.CartridgeWindows : Prop :=
  ∀ (s : State) (a : Word) (v : Byte),
    (∀ bank off : Nat, bank = (match s.cart.mbc with
        | .none => 1
        | .mbc1 _ lo hi mode => if mode then lo.toNat else 32 * hi.toNat + lo.toNat
        | .mbc2 _ bank => bank.toNat | .mbc3 _ bank _ => bank.toNat | .mbc5 _ bank _ => bank.toNat) →
      off = (if a.toNat < 0x4000 then a.toNat else bank * 0x4000 + (a.toNat - 0x4000)) → a.toNat < 0x8000 →
      s.memRead a = (if off < s.cart.romSize then s.cart.rom.read off else 0xFF)) ∧
    (∀ off : Option Nat, off = (match s.cart.mbc with
        | .none => some (a.toNat - 0xA000)
        | .mbc1 en _ hi mode =>
          if en then some ((if mode then hi.toNat else 0) * 0x2000 + (a.toNat - 0xA000)) else Option.none
        | .mbc2 en _ => if en then some ((a.toNat - 0xA000) % 512) else Option.none
        | .mbc3 en _ ram => if en = true ∧ ram.toNat ≤ 3 then some (ram.toNat * 0x2000 + (a.toNat - 0xA000)) else Option.none
        | .mbc5 en _ ram => if en then some (ram.toNat * 0x2000 + (a.toNat - 0xA000)) else Option.none) →
      0xA000 ≤ a.toNat → a.toNat ≤ 0xBFFF →
      ((∀ o : Nat, off = some o → s.cart.ramSize ≤ o) → s.memRead a = 0xFF ∧ s.memWrite a v = s) ∧
      (∀ o : Nat, off = some o → o < s.cart.ramSize →
        s.memRead a = (if s.cart.mbc.kind = 2 then 0xF0#8 ||| s.cart.xram.read o else s.cart.xram.read o) ∧
        s.memWrite a v = { s with cart := { s.cart with
          xram := s.cart.xram.write o (if s.cart.mbc.kind = 2 then v &&& 0x0F else v) } } ∧
        (s.memWrite a v).memRead a = (if s.cart.mbc.kind = 2 then 0xF0#8 ||| (v &&& 0x0F) else v)))

/-- 20_memory.md R91 and 64_cartridge.md R592 (never mutates ROM), 10_state.md R48: configuration, not state. That the parameters stand in the state is the own choice of the model (log entry 3). -/
def Obligations.ConfigurationKept : Prop :=
  ∀ s t : State, step s = .next t →
    t.cart.rom = s.cart.rom ∧ t.cart.romSize = s.cart.romSize ∧ t.cart.ramSize = s.cart.ramSize ∧
    t.cart.battery = s.cart.battery ∧ t.cart.mbc.kind = s.cart.mbc.kind ∧ t.params = s.params

/-- 70_reset_and_hazards.md R648 with the ranges of the state tables: properties to prove of every reachable state. The canonical form of the byte arrays is of the model. -/
def Obligations.CoherentKept : Prop :=
  ∀ s t : State, s.Inv → step s = .next t → t.Inv

/-- 70_reset_and_hazards.md R610 to R615, R648. The draws State.reset takes are the own choice of the model (log entries 1 and 2). -/
def Obligations.CoherentAtReset : Prop :=
  State.reset.Inv ∧
  ∀ (params : Params) (io : PostBootIo) (cart : Cartridge) (draws : Memory), draws.wf = true → cart.rom.wf = true →
    cart.xram.wf = true → cart.ramSize ≤ 0x20000 → cart.mbc.Inv →
    0 < params.sampleRate.samples → 0 < params.sampleRate.seconds →
    io.lcdc.getLsbD 7 = true → io.ly = 0 → io.tac.getLsbD 2 = false → io.nr52.getLsbD 7 = true →
    (State.resetWith params io cart draws).Inv

/-- 10_state.md R51, R52; 70_reset_and_hazards.md R612, R614, R616; 64_cartridge.md R590, R591, 10_state.md R42: decisions D16, D17 and D60 of the spec. -/
def Obligations.ResetValues : Prop :=
  (∀ (params : Params) (cart : Cartridge) (draws : Memory) (s : State), s = State.resetWith params postBootDmg cart draws →
    s.regs = { a := 0x01, b := 0x00, c := 0x13, d := 0x00, e := 0xD8, h := 0x01, l := 0x4D } ∧
    s.flags.toByte = 0xB0 ∧ s.sp = 0xFFFE ∧ s.pc = 0x0100 ∧ s.ime = false ∧ s.halted = false ∧
    s.eiDelayPending = false ∧ s.haltBugActive = false ∧ s.stepCount = 0 ∧
    (∀ r ∈ ([(0xFF00, 0xCF), (0xFF01, 0xFF), (0xFF02, 0xFF), (0xFF04, 0xAB), (0xFF05, 0x00), (0xFF06, 0x00),
        (0xFF07, 0xF8), (0xFF0F, 0xE0), (0xFF10, 0x80), (0xFF11, 0xBF), (0xFF12, 0xF3), (0xFF13, 0xFF), (0xFF14, 0xBF),
        (0xFF16, 0x3F), (0xFF17, 0x00), (0xFF18, 0xFF), (0xFF19, 0xBF), (0xFF1A, 0x7F), (0xFF1B, 0xFF), (0xFF1C, 0x9F),
        (0xFF1D, 0xFF), (0xFF1E, 0xBF), (0xFF20, 0xFF), (0xFF21, 0x00), (0xFF22, 0x00), (0xFF23, 0xBF), (0xFF24, 0x77),
        (0xFF25, 0xF3), (0xFF26, 0xF1)] ++
        [(0xFF40, 0x91), (0xFF41, 0x86), (0xFF42, 0x00), (0xFF43, 0x00), (0xFF44, 0x00), (0xFF45, 0x00), (0xFF46, 0xFF),
        (0xFF47, 0xFC), (0xFF48, 0xFF), (0xFF49, 0xFF), (0xFF4A, 0x00), (0xFF4B, 0x00), (0xFFFF, 0x00)] :
        List (Word × Byte)), s.memRead r.1 = r.2) ∧
    s.timer.counter = 0xABCC ∧ s.ppu.mode = .oamSearch ∧ s.ppu.cycleCount = 0 ∧ s.apu.ch4.lfsr = 0x7FFF ∧
    s.buttons = 0xFF ∧
    s.ppu.lcdOn = true ∧ s.apu.power = true ∧
    ∀ w : Word, (s.push16 w).sp = 0xFFFC ∧ (s.push16 w).memRead 0xFFFD = w.extractLsb' 8 8 ∧
      (s.push16 w).memRead 0xFFFC = w.extractLsb' 0 8) ∧
  (∀ (params : Params) (io : PostBootIo) (image : List Byte) (xramDraws draws : Memory) (s : State),
    resetWithImage .immediate params io image xramDraws draws = .ok s →
    s.cart.mbc.romBank = 1 ∧ s.cart.ramSize ≤ 0x20000 ∧ s.cart.mbc.Inv ∧
    (s.cart.mbc.kind ≠ 0 → ∀ a : Word, 0xA000 ≤ a.toNat → a.toNat ≤ 0xBFFF → s.memRead a = 0xFF))
end

