-- ==== Sys2Proof/Laws/Audio.lean ====
section
/-! SUPPORT. What the sample clock can do, said once: it appends samples to the stream, one per `samplePeriod` units of
phase. -/

namespace Sys2Proof.Machine

theorem Audio.pushMany_phase (mixed : Int × Int) (n : Nat) (u : Audio) : (u.pushMany mixed n).phase = u.phase := by
  induction n generalizing u with
  | zero => rfl
  | succ n ih => exact ih (u.push mixed)

theorem Audio.pushMany_samples (mixed : Int × Int) (n : Nat) (u : Audio) :
    ∃ more : List (Int × Int), (u.pushMany mixed n).samples = u.samples ++ more ∧ more.length = n := by
  induction n generalizing u with
  | zero => exact ⟨[], by simp [Audio.pushMany]⟩
  | succ n ih =>
    obtain ⟨more, hs, hl⟩ := ih (u.push mixed)
    exact ⟨_ :: more, by rw [Audio.pushMany, hs, Audio.push, List.append_assoc, List.singleton_append], by simp [hl]⟩

/-- One T-cycle: the phase grows by the rate, and each full period of it has become a sample. -/
theorem Audio.tick_spec (p : Params) (mixed : Int × Int) (u : Audio) :
    ∃ more : List (Int × Int), (u.tick p mixed).samples = u.samples ++ more ∧
      more.length * samplePeriod p.sampleRate + (u.tick p mixed).phase = u.phase + p.sampleRate.samples ∧
      (0 < samplePeriod p.sampleRate → (u.tick p mixed).phase < samplePeriod p.sampleRate) := by
  obtain ⟨more, hs, hl⟩ := Audio.pushMany_samples mixed ((u.phase + p.sampleRate.samples) / samplePeriod p.sampleRate)
    { u with phase := (u.phase + p.sampleRate.samples) % samplePeriod p.sampleRate }
  refine ⟨more, hs, ?_, ?_⟩
  · rw [Audio.tick, Audio.pushMany_phase, hl, Nat.mul_comm]; exact Nat.div_add_mod _ _
  · rw [Audio.tick, Audio.pushMany_phase]; exact Nat.mod_lt _

/-- `n` T-cycles, whatever the channels do. -/
theorem Audio.advance_spec (p : Params) (m : Memory) (n : Nat) (a : Apu) (u : Audio) :
    ∃ more : List (Int × Int), (Audio.advance p m n a u).samples = u.samples ++ more ∧
      more.length * samplePeriod p.sampleRate + (Audio.advance p m n a u).phase
        = u.phase + n * p.sampleRate.samples ∧
      (u.phase < samplePeriod p.sampleRate → (Audio.advance p m n a u).phase < samplePeriod p.sampleRate) := by
  induction n generalizing a u with
  | zero => exact ⟨[], by simp [Audio.advance], by simp [Audio.advance], id⟩
  | succ n ih =>
    obtain ⟨x, hx, px, bx⟩ := Audio.tick_spec p ((a.tick m).sample p) u
    obtain ⟨y, hy, py, bY⟩ := ih (a.tick m) (u.tick p ((a.tick m).sample p))
    refine ⟨x ++ y, by rw [Audio.advance, hy, hx, List.append_assoc], ?_, fun h => bY (bx (by omega))⟩
    rw [Audio.advance, List.length_append, Nat.add_mul, Nat.succ_mul]
    omega

@[simp] theorem interleave_length (l : List (Int × Int)) : (interleave l).length = 2 * l.length := by
  induction l with
  | nil => rfl
  | cons x l ih => simp [interleave, ih]; omega

/-- `take_samples` gives at most `n` samples, and what it leaves follows what it gave. -/
theorem State.takeSamples_spec (s : State) (n : Nat) :
    (s.takeSamples n).count ≤ n ∧ (s.takeSamples n).dst.length = 2 * (s.takeSamples n).count ∧
      s.audio.samples = s.audio.samples.take (s.takeSamples n).count ++ (s.takeSamples n).after.audio.samples := by
  refine ⟨by simp [State.takeSamples], by simp [State.takeSamples], ?_⟩
  simp only [State.takeSamples, List.length_take]
  rcases Nat.le_total n s.audio.samples.length with h | h
  · rw [Nat.min_eq_left h, List.take_append_drop]
  · rw [Nat.min_eq_right h, List.take_length, List.drop_eq_nil_of_le h, List.append_nil]

end Sys2Proof.Machine
end

