-- ==== Sys2Proof/Laws/Memory.lean ====
section
/-! SUPPORT. A byte array reads back what was written, elsewhere what it held, and stays in canonical form. -/

namespace Sys2Proof.Machine

theorem readCells_eraseCell (a b : Nat) (l : List Host.Cell) :
    readCells b (eraseCell a l) = if b = a then unlistedByte else readCells b l := by
  induction l with
  | nil => simp [eraseCell, readCells]
  | cons c rest ih =>
    obtain ⟨x, w⟩ := c
    by_cases hax : a = x
    · subst hax; simp only [eraseCell, ↓reduceIte, ih, readCells]; split <;> rfl
    · by_cases hbx : b = x
      · subst hbx; simp [eraseCell, readCells, hax, Ne.symm hax]
      · simp [eraseCell, readCells, hax, hbx, ih]

theorem readCells_insertCell (a b : Nat) (v : Byte) (l : List Host.Cell) :
    readCells b (insertCell a v l) = if b = a then v else readCells b l := by
  induction l with
  | nil => simp [insertCell, readCells]
  | cons c rest ih =>
    obtain ⟨x, w⟩ := c
    simp only [insertCell]
    split
    · simp [readCells]
    · split
      · next h => subst h; simp only [readCells]; split <;> rfl
      · next h => simp only [readCells, ih]; split <;> split <;> simp_all

/-- A read of the written byte. -/
@[simp] theorem Memory.read_write_same (m : Memory) (a : Nat) (v : Byte) : (m.write a v).read a = v := by
  unfold Memory.write Memory.read
  split
  · next h => simp [readCells_eraseCell, h]
  · simp [readCells_insertCell]

/-- A read of any other byte. -/
theorem Memory.read_write_other (m : Memory) {a b : Nat} (h : b ≠ a) (v : Byte) : (m.write a v).read b = m.read b := by
  unfold Memory.write Memory.read
  split
  · simp [readCells_eraseCell, h]
  · simp [readCells_insertCell, h]

/-! ### The canonical form is kept -/

theorem cellsAbove_mono {lo hi : Nat} (h : lo ≤ hi) (l : List Host.Cell) (w : cellsAbove hi l = true) :
    cellsAbove lo l = true := by
  cases l with
  | nil => rfl
  | cons c rest => obtain ⟨x, v⟩ := c; simp [cellsAbove] at w ⊢; exact ⟨⟨by omega, w.1.2⟩, w.2⟩

theorem cellsAbove_eraseCell (lo a : Nat) (l : List Host.Cell) (w : cellsAbove lo l = true) :
    cellsAbove lo (eraseCell a l) = true := by
  induction l generalizing lo with
  | nil => rfl
  | cons c rest ih =>
    obtain ⟨x, v⟩ := c
    simp [cellsAbove] at w
    simp only [eraseCell]
    split
    · exact ih _ (cellsAbove_mono (by omega) rest w.2)
    · simp [cellsAbove, w.1.1, w.1.2, ih _ w.2]

theorem cellsAbove_insertCell (lo a : Nat) (v : Byte) (l : List Host.Cell) (ha : lo < a) (hv : v ≠ unlistedByte)
    (w : cellsAbove lo l = true) : cellsAbove lo (insertCell a v l) = true := by
  induction l generalizing lo with
  | nil => simp [insertCell, cellsAbove, ha, hv]
  | cons c rest ih =>
    obtain ⟨x, u⟩ := c
    simp [cellsAbove] at w
    simp only [insertCell]
    split
    · next h => simp [cellsAbove, ha, hv, h, w.1.2, w.2]
    · split
      · next h => subst h; simp [cellsAbove, ha, hv, w.2]
      · simp [cellsAbove, w.1.1, w.1.2, ih x (by omega) w.2]

theorem cellsWf_of_above {lo : Nat} (l : List Host.Cell) (w : cellsAbove lo l = true) : cellsWf l = true := by
  cases l with
  | nil => rfl
  | cons c rest => obtain ⟨x, v⟩ := c; simp [cellsAbove] at w; simp [cellsWf, w.1.2, w.2]

theorem cellsWf_eraseCell (a : Nat) (l : List Host.Cell) (w : cellsWf l = true) : cellsWf (eraseCell a l) = true := by
  cases l with
  | nil => rfl
  | cons c rest =>
    obtain ⟨x, v⟩ := c
    simp [cellsWf] at w
    simp only [eraseCell]
    split
    · exact cellsWf_of_above _ (cellsAbove_eraseCell x a rest w.2)
    · simp [cellsWf, w.1, cellsAbove_eraseCell x a rest w.2]

theorem cellsWf_insertCell (a : Nat) (v : Byte) (l : List Host.Cell) (hv : v ≠ unlistedByte) (w : cellsWf l = true) :
    cellsWf (insertCell a v l) = true := by
  cases l with
  | nil => simp [insertCell, cellsWf, cellsAbove, hv]
  | cons c rest =>
    obtain ⟨x, u⟩ := c
    simp [cellsWf] at w
    simp only [insertCell]
    split
    · next h => simp [cellsWf, cellsAbove, hv, h, w.1, w.2]
    · split
      · next h => subst h; simp [cellsWf, hv, w.2]
      · simp [cellsWf, w.1, cellsAbove_insertCell x a v rest (by omega) hv w.2]

/-- A write keeps the canonical form. -/
theorem Memory.wf_write (m : Memory) (a : Nat) (v : Byte) (w : m.wf = true) : (m.write a v).wf = true := by
  unfold Memory.write
  split
  · exact cellsWf_eraseCell a m.cells w
  · next h => exact cellsWf_insertCell a v m.cells h w

/-- So does a write of several bytes. -/
theorem Memory.wf_writeBytes (m : Memory) (a : Nat) (bs : List Byte) (w : m.wf = true) :
    (m.writeBytes a bs).wf = true := by
  induction bs generalizing m a with
  | nil => exact w
  | cons b bs ih => exact ih _ _ (Memory.wf_write m a b w)

/-- The array that lists nothing is in canonical form. -/
theorem Memory.wf_empty : Memory.wf ⟨[]⟩ = true := rfl

end Sys2Proof.Machine
end

