-- ==== Sys2Proof/Laws/State.lean ====
section
/-! SUPPORT. The fields of a state after each of its plain updates: one lemma per field, true by unfolding. -/

namespace Sys2Proof.Machine

variable (s : State)

/-! `State.setR` -/

@[simp] theorem State.setR_regs (r : Reg8) (v : Byte) : (s.setR r v).regs = s.regs.set r v := rfl
@[simp] theorem State.setR_flags (r : Reg8) (v : Byte) : (s.setR r v).flags = s.flags := rfl
@[simp] theorem State.setR_sp (r : Reg8) (v : Byte) : (s.setR r v).sp = s.sp := rfl
@[simp] theorem State.setR_pc (r : Reg8) (v : Byte) : (s.setR r v).pc = s.pc := rfl
@[simp] theorem State.setR_ime (r : Reg8) (v : Byte) : (s.setR r v).ime = s.ime := rfl
@[simp] theorem State.setR_eiDelayPending (r : Reg8) (v : Byte) : (s.setR r v).eiDelayPending = s.eiDelayPending := rfl
@[simp] theorem State.setR_halted (r : Reg8) (v : Byte) : (s.setR r v).halted = s.halted := rfl
@[simp] theorem State.setR_haltBugActive (r : Reg8) (v : Byte) : (s.setR r v).haltBugActive = s.haltBugActive := rfl
@[simp] theorem State.setR_stepCount (r : Reg8) (v : Byte) : (s.setR r v).stepCount = s.stepCount := rfl
@[simp] theorem State.setR_tcycles (r : Reg8) (v : Byte) : (s.setR r v).tcycles = s.tcycles := rfl
@[simp] theorem State.setR_ie (r : Reg8) (v : Byte) : (s.setR r v).ie = s.ie := rfl
@[simp] theorem State.setR_iflag (r : Reg8) (v : Byte) : (s.setR r v).iflag = s.iflag := rfl
@[simp] theorem State.setR_joypSelect (r : Reg8) (v : Byte) : (s.setR r v).joypSelect = s.joypSelect := rfl
@[simp] theorem State.setR_buttons (r : Reg8) (v : Byte) : (s.setR r v).buttons = s.buttons := rfl
@[simp] theorem State.setR_inputQueue (r : Reg8) (v : Byte) : (s.setR r v).inputQueue = s.inputQueue := rfl
@[simp] theorem State.setR_timer (r : Reg8) (v : Byte) : (s.setR r v).timer = s.timer := rfl
@[simp] theorem State.setR_ppu (r : Reg8) (v : Byte) : (s.setR r v).ppu = s.ppu := rfl
@[simp] theorem State.setR_apu (r : Reg8) (v : Byte) : (s.setR r v).apu = s.apu := rfl
@[simp] theorem State.setR_audio (r : Reg8) (v : Byte) : (s.setR r v).audio = s.audio := rfl
@[simp] theorem State.setR_cart (r : Reg8) (v : Byte) : (s.setR r v).cart = s.cart := rfl
@[simp] theorem State.setR_ram (r : Reg8) (v : Byte) : (s.setR r v).ram = s.ram := rfl
@[simp] theorem State.setR_params (r : Reg8) (v : Byte) : (s.setR r v).params = s.params := rfl

/-! `State.setBc` -/

@[simp] theorem State.setBc_regs (v : Word) : (s.setBc v).regs = { s.regs with b := hiByte v, c := loByte v } := rfl
@[simp] theorem State.setBc_flags (v : Word) : (s.setBc v).flags = s.flags := rfl
@[simp] theorem State.setBc_sp (v : Word) : (s.setBc v).sp = s.sp := rfl
@[simp] theorem State.setBc_pc (v : Word) : (s.setBc v).pc = s.pc := rfl
@[simp] theorem State.setBc_ime (v : Word) : (s.setBc v).ime = s.ime := rfl
@[simp] theorem State.setBc_eiDelayPending (v : Word) : (s.setBc v).eiDelayPending = s.eiDelayPending := rfl
@[simp] theorem State.setBc_halted (v : Word) : (s.setBc v).halted = s.halted := rfl
@[simp] theorem State.setBc_haltBugActive (v : Word) : (s.setBc v).haltBugActive = s.haltBugActive := rfl
@[simp] theorem State.setBc_stepCount (v : Word) : (s.setBc v).stepCount = s.stepCount := rfl
@[simp] theorem State.setBc_tcycles (v : Word) : (s.setBc v).tcycles = s.tcycles := rfl
@[simp] theorem State.setBc_ie (v : Word) : (s.setBc v).ie = s.ie := rfl
@[simp] theorem State.setBc_iflag (v : Word) : (s.setBc v).iflag = s.iflag := rfl
@[simp] theorem State.setBc_joypSelect (v : Word) : (s.setBc v).joypSelect = s.joypSelect := rfl
@[simp] theorem State.setBc_buttons (v : Word) : (s.setBc v).buttons = s.buttons := rfl
@[simp] theorem State.setBc_inputQueue (v : Word) : (s.setBc v).inputQueue = s.inputQueue := rfl
@[simp] theorem State.setBc_timer (v : Word) : (s.setBc v).timer = s.timer := rfl
@[simp] theorem State.setBc_ppu (v : Word) : (s.setBc v).ppu = s.ppu := rfl
@[simp] theorem State.setBc_apu (v : Word) : (s.setBc v).apu = s.apu := rfl
@[simp] theorem State.setBc_audio (v : Word) : (s.setBc v).audio = s.audio := rfl
@[simp] theorem State.setBc_cart (v : Word) : (s.setBc v).cart = s.cart := rfl
@[simp] theorem State.setBc_ram (v : Word) : (s.setBc v).ram = s.ram := rfl
@[simp] theorem State.setBc_params (v : Word) : (s.setBc v).params = s.params := rfl

/-! `State.setDe` -/

@[simp] theorem State.setDe_regs (v : Word) : (s.setDe v).regs = { s.regs with d := hiByte v, e := loByte v } := rfl
@[simp] theorem State.setDe_flags (v : Word) : (s.setDe v).flags = s.flags := rfl
@[simp] theorem State.setDe_sp (v : Word) : (s.setDe v).sp = s.sp := rfl
@[simp] theorem State.setDe_pc (v : Word) : (s.setDe v).pc = s.pc := rfl
@[simp] theorem State.setDe_ime (v : Word) : (s.setDe v).ime = s.ime := rfl
@[simp] theorem State.setDe_eiDelayPending (v : Word) : (s.setDe v).eiDelayPending = s.eiDelayPending := rfl
@[simp] theorem State.setDe_halted (v : Word) : (s.setDe v).halted = s.halted := rfl
@[simp] theorem State.setDe_haltBugActive (v : Word) : (s.setDe v).haltBugActive = s.haltBugActive := rfl
@[simp] theorem State.setDe_stepCount (v : Word) : (s.setDe v).stepCount = s.stepCount := rfl
@[simp] theorem State.setDe_tcycles (v : Word) : (s.setDe v).tcycles = s.tcycles := rfl
@[simp] theorem State.setDe_ie (v : Word) : (s.setDe v).ie = s.ie := rfl
@[simp] theorem State.setDe_iflag (v : Word) : (s.setDe v).iflag = s.iflag := rfl
@[simp] theorem State.setDe_joypSelect (v : Word) : (s.setDe v).joypSelect = s.joypSelect := rfl
@[simp] theorem State.setDe_buttons (v : Word) : (s.setDe v).buttons = s.buttons := rfl
@[simp] theorem State.setDe_inputQueue (v : Word) : (s.setDe v).inputQueue = s.inputQueue := rfl
@[simp] theorem State.setDe_timer (v : Word) : (s.setDe v).timer = s.timer := rfl
@[simp] theorem State.setDe_ppu (v : Word) : (s.setDe v).ppu = s.ppu := rfl
@[simp] theorem State.setDe_apu (v : Word) : (s.setDe v).apu = s.apu := rfl
@[simp] theorem State.setDe_audio (v : Word) : (s.setDe v).audio = s.audio := rfl
@[simp] theorem State.setDe_cart (v : Word) : (s.setDe v).cart = s.cart := rfl
@[simp] theorem State.setDe_ram (v : Word) : (s.setDe v).ram = s.ram := rfl
@[simp] theorem State.setDe_params (v : Word) : (s.setDe v).params = s.params := rfl

/-! `State.setHl` -/

@[simp] theorem State.setHl_regs (v : Word) : (s.setHl v).regs = { s.regs with h := hiByte v, l := loByte v } := rfl
@[simp] theorem State.setHl_flags (v : Word) : (s.setHl v).flags = s.flags := rfl
@[simp] theorem State.setHl_sp (v : Word) : (s.setHl v).sp = s.sp := rfl
@[simp] theorem State.setHl_pc (v : Word) : (s.setHl v).pc = s.pc := rfl
@[simp] theorem State.setHl_ime (v : Word) : (s.setHl v).ime = s.ime := rfl
@[simp] theorem State.setHl_eiDelayPending (v : Word) : (s.setHl v).eiDelayPending = s.eiDelayPending := rfl
@[simp] theorem State.setHl_halted (v : Word) : (s.setHl v).halted = s.halted := rfl
@[simp] theorem State.setHl_haltBugActive (v : Word) : (s.setHl v).haltBugActive = s.haltBugActive := rfl
@[simp] theorem State.setHl_stepCount (v : Word) : (s.setHl v).stepCount = s.stepCount := rfl
@[simp] theorem State.setHl_tcycles (v : Word) : (s.setHl v).tcycles = s.tcycles := rfl
@[simp] theorem State.setHl_ie (v : Word) : (s.setHl v).ie = s.ie := rfl
@[simp] theorem State.setHl_iflag (v : Word) : (s.setHl v).iflag = s.iflag := rfl
@[simp] theorem State.setHl_joypSelect (v : Word) : (s.setHl v).joypSelect = s.joypSelect := rfl
@[simp] theorem State.setHl_buttons (v : Word) : (s.setHl v).buttons = s.buttons := rfl
@[simp] theorem State.setHl_inputQueue (v : Word) : (s.setHl v).inputQueue = s.inputQueue := rfl
@[simp] theorem State.setHl_timer (v : Word) : (s.setHl v).timer = s.timer := rfl
@[simp] theorem State.setHl_ppu (v : Word) : (s.setHl v).ppu = s.ppu := rfl
@[simp] theorem State.setHl_apu (v : Word) : (s.setHl v).apu = s.apu := rfl
@[simp] theorem State.setHl_audio (v : Word) : (s.setHl v).audio = s.audio := rfl
@[simp] theorem State.setHl_cart (v : Word) : (s.setHl v).cart = s.cart := rfl
@[simp] theorem State.setHl_ram (v : Word) : (s.setHl v).ram = s.ram := rfl
@[simp] theorem State.setHl_params (v : Word) : (s.setHl v).params = s.params := rfl

/-! `State.setAf` -/

@[simp] theorem State.setAf_regs (v : Word) : (s.setAf v).regs = { s.regs with a := hiByte v } := rfl
@[simp] theorem State.setAf_flags (v : Word) : (s.setAf v).flags = Flags.ofByte (loByte v) := rfl
@[simp] theorem State.setAf_sp (v : Word) : (s.setAf v).sp = s.sp := rfl
@[simp] theorem State.setAf_pc (v : Word) : (s.setAf v).pc = s.pc := rfl
@[simp] theorem State.setAf_ime (v : Word) : (s.setAf v).ime = s.ime := rfl
@[simp] theorem State.setAf_eiDelayPending (v : Word) : (s.setAf v).eiDelayPending = s.eiDelayPending := rfl
@[simp] theorem State.setAf_halted (v : Word) : (s.setAf v).halted = s.halted := rfl
@[simp] theorem State.setAf_haltBugActive (v : Word) : (s.setAf v).haltBugActive = s.haltBugActive := rfl
@[simp] theorem State.setAf_stepCount (v : Word) : (s.setAf v).stepCount = s.stepCount := rfl
@[simp] theorem State.setAf_tcycles (v : Word) : (s.setAf v).tcycles = s.tcycles := rfl
@[simp] theorem State.setAf_ie (v : Word) : (s.setAf v).ie = s.ie := rfl
@[simp] theorem State.setAf_iflag (v : Word) : (s.setAf v).iflag = s.iflag := rfl
@[simp] theorem State.setAf_joypSelect (v : Word) : (s.setAf v).joypSelect = s.joypSelect := rfl
@[simp] theorem State.setAf_buttons (v : Word) : (s.setAf v).buttons = s.buttons := rfl
@[simp] theorem State.setAf_inputQueue (v : Word) : (s.setAf v).inputQueue = s.inputQueue := rfl
@[simp] theorem State.setAf_timer (v : Word) : (s.setAf v).timer = s.timer := rfl
@[simp] theorem State.setAf_ppu (v : Word) : (s.setAf v).ppu = s.ppu := rfl
@[simp] theorem State.setAf_apu (v : Word) : (s.setAf v).apu = s.apu := rfl
@[simp] theorem State.setAf_audio (v : Word) : (s.setAf v).audio = s.audio := rfl
@[simp] theorem State.setAf_cart (v : Word) : (s.setAf v).cart = s.cart := rfl
@[simp] theorem State.setAf_ram (v : Word) : (s.setAf v).ram = s.ram := rfl
@[simp] theorem State.setAf_params (v : Word) : (s.setAf v).params = s.params := rfl

/-! `State.popped` -/

@[simp] theorem State.popped_regs : (s.popped).regs = s.regs := rfl
@[simp] theorem State.popped_flags : (s.popped).flags = s.flags := rfl
@[simp] theorem State.popped_sp : (s.popped).sp = s.sp + 1 + 1 := rfl
@[simp] theorem State.popped_pc : (s.popped).pc = s.pc := rfl
@[simp] theorem State.popped_ime : (s.popped).ime = s.ime := rfl
@[simp] theorem State.popped_eiDelayPending : (s.popped).eiDelayPending = s.eiDelayPending := rfl
@[simp] theorem State.popped_halted : (s.popped).halted = s.halted := rfl
@[simp] theorem State.popped_haltBugActive : (s.popped).haltBugActive = s.haltBugActive := rfl
@[simp] theorem State.popped_stepCount : (s.popped).stepCount = s.stepCount := rfl
@[simp] theorem State.popped_tcycles : (s.popped).tcycles = s.tcycles := rfl
@[simp] theorem State.popped_ie : (s.popped).ie = s.ie := rfl
@[simp] theorem State.popped_iflag : (s.popped).iflag = s.iflag := rfl
@[simp] theorem State.popped_joypSelect : (s.popped).joypSelect = s.joypSelect := rfl
@[simp] theorem State.popped_buttons : (s.popped).buttons = s.buttons := rfl
@[simp] theorem State.popped_inputQueue : (s.popped).inputQueue = s.inputQueue := rfl
@[simp] theorem State.popped_timer : (s.popped).timer = s.timer := rfl
@[simp] theorem State.popped_ppu : (s.popped).ppu = s.ppu := rfl
@[simp] theorem State.popped_apu : (s.popped).apu = s.apu := rfl
@[simp] theorem State.popped_audio : (s.popped).audio = s.audio := rfl
@[simp] theorem State.popped_cart : (s.popped).cart = s.cart := rfl
@[simp] theorem State.popped_ram : (s.popped).ram = s.ram := rfl
@[simp] theorem State.popped_params : (s.popped).params = s.params := rfl

/-! `State.countStep` -/

@[simp] theorem State.countStep_regs : (s.countStep).regs = s.regs := rfl
@[simp] theorem State.countStep_flags : (s.countStep).flags = s.flags := rfl
@[simp] theorem State.countStep_sp : (s.countStep).sp = s.sp := rfl
@[simp] theorem State.countStep_pc : (s.countStep).pc = s.pc := rfl
@[simp] theorem State.countStep_ime : (s.countStep).ime = s.ime := rfl
@[simp] theorem State.countStep_eiDelayPending : (s.countStep).eiDelayPending = s.eiDelayPending := rfl
@[simp] theorem State.countStep_halted : (s.countStep).halted = s.halted := rfl
@[simp] theorem State.countStep_haltBugActive : (s.countStep).haltBugActive = s.haltBugActive := rfl
@[simp] theorem State.countStep_stepCount : (s.countStep).stepCount = s.stepCount + 1 := rfl
@[simp] theorem State.countStep_tcycles : (s.countStep).tcycles = s.tcycles := rfl
@[simp] theorem State.countStep_ie : (s.countStep).ie = s.ie := rfl
@[simp] theorem State.countStep_iflag : (s.countStep).iflag = s.iflag := rfl
@[simp] theorem State.countStep_joypSelect : (s.countStep).joypSelect = s.joypSelect := rfl
@[simp] theorem State.countStep_buttons : (s.countStep).buttons = s.buttons := rfl
@[simp] theorem State.countStep_inputQueue : (s.countStep).inputQueue = s.inputQueue := rfl
@[simp] theorem State.countStep_timer : (s.countStep).timer = s.timer := rfl
@[simp] theorem State.countStep_ppu : (s.countStep).ppu = s.ppu := rfl
@[simp] theorem State.countStep_apu : (s.countStep).apu = s.apu := rfl
@[simp] theorem State.countStep_audio : (s.countStep).audio = s.audio := rfl
@[simp] theorem State.countStep_cart : (s.countStep).cart = s.cart := rfl
@[simp] theorem State.countStep_ram : (s.countStep).ram = s.ram := rfl
@[simp] theorem State.countStep_params : (s.countStep).params = s.params := rfl

/-! `State.writeArray` -/

@[simp] theorem State.writeArray_regs (a : Nat) (v : Byte) : (s.writeArray a v).regs = s.regs := rfl
@[simp] theorem State.writeArray_flags (a : Nat) (v : Byte) : (s.writeArray a v).flags = s.flags := rfl
@[simp] theorem State.writeArray_sp (a : Nat) (v : Byte) : (s.writeArray a v).sp = s.sp := rfl
@[simp] theorem State.writeArray_pc (a : Nat) (v : Byte) : (s.writeArray a v).pc = s.pc := rfl
@[simp] theorem State.writeArray_ime (a : Nat) (v : Byte) : (s.writeArray a v).ime = s.ime := rfl
@[simp] theorem State.writeArray_eiDelayPending (a : Nat) (v : Byte) : (s.writeArray a v).eiDelayPending = s.eiDelayPending := rfl
@[simp] theorem State.writeArray_halted (a : Nat) (v : Byte) : (s.writeArray a v).halted = s.halted := rfl
@[simp] theorem State.writeArray_haltBugActive (a : Nat) (v : Byte) : (s.writeArray a v).haltBugActive = s.haltBugActive := rfl
@[simp] theorem State.writeArray_stepCount (a : Nat) (v : Byte) : (s.writeArray a v).stepCount = s.stepCount := rfl
@[simp] theorem State.writeArray_tcycles (a : Nat) (v : Byte) : (s.writeArray a v).tcycles = s.tcycles := rfl
@[simp] theorem State.writeArray_ie (a : Nat) (v : Byte) : (s.writeArray a v).ie = s.ie := rfl
@[simp] theorem State.writeArray_iflag (a : Nat) (v : Byte) : (s.writeArray a v).iflag = s.iflag := rfl
@[simp] theorem State.writeArray_joypSelect (a : Nat) (v : Byte) : (s.writeArray a v).joypSelect = s.joypSelect := rfl
@[simp] theorem State.writeArray_buttons (a : Nat) (v : Byte) : (s.writeArray a v).buttons = s.buttons := rfl
@[simp] theorem State.writeArray_inputQueue (a : Nat) (v : Byte) : (s.writeArray a v).inputQueue = s.inputQueue := rfl
@[simp] theorem State.writeArray_timer (a : Nat) (v : Byte) : (s.writeArray a v).timer = s.timer := rfl
@[simp] theorem State.writeArray_ppu (a : Nat) (v : Byte) : (s.writeArray a v).ppu = s.ppu := rfl
@[simp] theorem State.writeArray_apu (a : Nat) (v : Byte) : (s.writeArray a v).apu = s.apu := rfl
@[simp] theorem State.writeArray_audio (a : Nat) (v : Byte) : (s.writeArray a v).audio = s.audio := rfl
@[simp] theorem State.writeArray_cart (a : Nat) (v : Byte) : (s.writeArray a v).cart = s.cart := rfl
@[simp] theorem State.writeArray_ram (a : Nat) (v : Byte) : (s.writeArray a v).ram = s.ram.write a v := rfl
@[simp] theorem State.writeArray_params (a : Nat) (v : Byte) : (s.writeArray a v).params = s.params := rfl

/-! `State.setTimer` -/

@[simp] theorem State.setTimer_regs (r : Timer × BitVec 5) : (s.setTimer r).regs = s.regs := rfl
@[simp] theorem State.setTimer_flags (r : Timer × BitVec 5) : (s.setTimer r).flags = s.flags := rfl
@[simp] theorem State.setTimer_sp (r : Timer × BitVec 5) : (s.setTimer r).sp = s.sp := rfl
@[simp] theorem State.setTimer_pc (r : Timer × BitVec 5) : (s.setTimer r).pc = s.pc := rfl
@[simp] theorem State.setTimer_ime (r : Timer × BitVec 5) : (s.setTimer r).ime = s.ime := rfl
@[simp] theorem State.setTimer_eiDelayPending (r : Timer × BitVec 5) : (s.setTimer r).eiDelayPending = s.eiDelayPending := rfl
@[simp] theorem State.setTimer_halted (r : Timer × BitVec 5) : (s.setTimer r).halted = s.halted := rfl
@[simp] theorem State.setTimer_haltBugActive (r : Timer × BitVec 5) : (s.setTimer r).haltBugActive = s.haltBugActive := rfl
@[simp] theorem State.setTimer_stepCount (r : Timer × BitVec 5) : (s.setTimer r).stepCount = s.stepCount := rfl
@[simp] theorem State.setTimer_tcycles (r : Timer × BitVec 5) : (s.setTimer r).tcycles = s.tcycles := rfl
@[simp] theorem State.setTimer_ie (r : Timer × BitVec 5) : (s.setTimer r).ie = s.ie := rfl
@[simp] theorem State.setTimer_iflag (r : Timer × BitVec 5) : (s.setTimer r).iflag = r.2 := rfl
@[simp] theorem State.setTimer_joypSelect (r : Timer × BitVec 5) : (s.setTimer r).joypSelect = s.joypSelect := rfl
@[simp] theorem State.setTimer_buttons (r : Timer × BitVec 5) : (s.setTimer r).buttons = s.buttons := rfl
@[simp] theorem State.setTimer_inputQueue (r : Timer × BitVec 5) : (s.setTimer r).inputQueue = s.inputQueue := rfl
@[simp] theorem State.setTimer_timer (r : Timer × BitVec 5) : (s.setTimer r).timer = r.1 := rfl
@[simp] theorem State.setTimer_ppu (r : Timer × BitVec 5) : (s.setTimer r).ppu = s.ppu := rfl
@[simp] theorem State.setTimer_apu (r : Timer × BitVec 5) : (s.setTimer r).apu = s.apu := rfl
@[simp] theorem State.setTimer_audio (r : Timer × BitVec 5) : (s.setTimer r).audio = s.audio := rfl
@[simp] theorem State.setTimer_cart (r : Timer × BitVec 5) : (s.setTimer r).cart = s.cart := rfl
@[simp] theorem State.setTimer_ram (r : Timer × BitVec 5) : (s.setTimer r).ram = s.ram := rfl
@[simp] theorem State.setTimer_params (r : Timer × BitVec 5) : (s.setTimer r).params = s.params := rfl

/-! `State.setPpu` -/

@[simp] theorem State.setPpu_regs (r : Ppu × BitVec 5) : (s.setPpu r).regs = s.regs := rfl
@[simp] theorem State.setPpu_flags (r : Ppu × BitVec 5) : (s.setPpu r).flags = s.flags := rfl
@[simp] theorem State.setPpu_sp (r : Ppu × BitVec 5) : (s.setPpu r).sp = s.sp := rfl
@[simp] theorem State.setPpu_pc (r : Ppu × BitVec 5) : (s.setPpu r).pc = s.pc := rfl
@[simp] theorem State.setPpu_ime (r : Ppu × BitVec 5) : (s.setPpu r).ime = s.ime := rfl
@[simp] theorem State.setPpu_eiDelayPending (r : Ppu × BitVec 5) : (s.setPpu r).eiDelayPending = s.eiDelayPending := rfl
@[simp] theorem State.setPpu_halted (r : Ppu × BitVec 5) : (s.setPpu r).halted = s.halted := rfl
@[simp] theorem State.setPpu_haltBugActive (r : Ppu × BitVec 5) : (s.setPpu r).haltBugActive = s.haltBugActive := rfl
@[simp] theorem State.setPpu_stepCount (r : Ppu × BitVec 5) : (s.setPpu r).stepCount = s.stepCount := rfl
@[simp] theorem State.setPpu_tcycles (r : Ppu × BitVec 5) : (s.setPpu r).tcycles = s.tcycles := rfl
@[simp] theorem State.setPpu_ie (r : Ppu × BitVec 5) : (s.setPpu r).ie = s.ie := rfl
@[simp] theorem State.setPpu_iflag (r : Ppu × BitVec 5) : (s.setPpu r).iflag = r.2 := rfl
@[simp] theorem State.setPpu_joypSelect (r : Ppu × BitVec 5) : (s.setPpu r).joypSelect = s.joypSelect := rfl
@[simp] theorem State.setPpu_buttons (r : Ppu × BitVec 5) : (s.setPpu r).buttons = s.buttons := rfl
@[simp] theorem State.setPpu_inputQueue (r : Ppu × BitVec 5) : (s.setPpu r).inputQueue = s.inputQueue := rfl
@[simp] theorem State.setPpu_timer (r : Ppu × BitVec 5) : (s.setPpu r).timer = s.timer := rfl
@[simp] theorem State.setPpu_ppu (r : Ppu × BitVec 5) : (s.setPpu r).ppu = r.1 := rfl
@[simp] theorem State.setPpu_apu (r : Ppu × BitVec 5) : (s.setPpu r).apu = s.apu := rfl
@[simp] theorem State.setPpu_audio (r : Ppu × BitVec 5) : (s.setPpu r).audio = s.audio := rfl
@[simp] theorem State.setPpu_cart (r : Ppu × BitVec 5) : (s.setPpu r).cart = s.cart := rfl
@[simp] theorem State.setPpu_ram (r : Ppu × BitVec 5) : (s.setPpu r).ram = s.ram := rfl
@[simp] theorem State.setPpu_params (r : Ppu × BitVec 5) : (s.setPpu r).params = s.params := rfl

/-! `State.applyInput` -/

@[simp] theorem State.applyInput_regs (b : Byte) : (s.applyInput b).regs = s.regs := rfl
@[simp] theorem State.applyInput_flags (b : Byte) : (s.applyInput b).flags = s.flags := rfl
@[simp] theorem State.applyInput_sp (b : Byte) : (s.applyInput b).sp = s.sp := rfl
@[simp] theorem State.applyInput_pc (b : Byte) : (s.applyInput b).pc = s.pc := rfl
@[simp] theorem State.applyInput_ime (b : Byte) : (s.applyInput b).ime = s.ime := rfl
@[simp] theorem State.applyInput_eiDelayPending (b : Byte) : (s.applyInput b).eiDelayPending = s.eiDelayPending := rfl
@[simp] theorem State.applyInput_halted (b : Byte) : (s.applyInput b).halted = s.halted := rfl
@[simp] theorem State.applyInput_haltBugActive (b : Byte) : (s.applyInput b).haltBugActive = s.haltBugActive := rfl
@[simp] theorem State.applyInput_stepCount (b : Byte) : (s.applyInput b).stepCount = s.stepCount := rfl
@[simp] theorem State.applyInput_tcycles (b : Byte) : (s.applyInput b).tcycles = s.tcycles := rfl
@[simp] theorem State.applyInput_ie (b : Byte) : (s.applyInput b).ie = s.ie := rfl
@[simp] theorem State.applyInput_iflag (b : Byte) : (s.applyInput b).iflag = requestIf (decide (s.buttons &&& ~~~b ≠ 0)) .joypad s.iflag := rfl
@[simp] theorem State.applyInput_joypSelect (b : Byte) : (s.applyInput b).joypSelect = s.joypSelect := rfl
@[simp] theorem State.applyInput_buttons (b : Byte) : (s.applyInput b).buttons = b := rfl
@[simp] theorem State.applyInput_inputQueue (b : Byte) : (s.applyInput b).inputQueue = s.inputQueue := rfl
@[simp] theorem State.applyInput_timer (b : Byte) : (s.applyInput b).timer = s.timer := rfl
@[simp] theorem State.applyInput_ppu (b : Byte) : (s.applyInput b).ppu = s.ppu := rfl
@[simp] theorem State.applyInput_apu (b : Byte) : (s.applyInput b).apu = s.apu := rfl
@[simp] theorem State.applyInput_audio (b : Byte) : (s.applyInput b).audio = s.audio := rfl
@[simp] theorem State.applyInput_cart (b : Byte) : (s.applyInput b).cart = s.cart := rfl
@[simp] theorem State.applyInput_ram (b : Byte) : (s.applyInput b).ram = s.ram := rfl
@[simp] theorem State.applyInput_params (b : Byte) : (s.applyInput b).params = s.params := rfl

/-! `State.queueInput` -/

@[simp] theorem State.queueInput_regs (b : Byte) : (s.queueInput b).regs = s.regs := rfl
@[simp] theorem State.queueInput_flags (b : Byte) : (s.queueInput b).flags = s.flags := rfl
@[simp] theorem State.queueInput_sp (b : Byte) : (s.queueInput b).sp = s.sp := rfl
@[simp] theorem State.queueInput_pc (b : Byte) : (s.queueInput b).pc = s.pc := rfl
@[simp] theorem State.queueInput_ime (b : Byte) : (s.queueInput b).ime = s.ime := rfl
@[simp] theorem State.queueInput_eiDelayPending (b : Byte) : (s.queueInput b).eiDelayPending = s.eiDelayPending := rfl
@[simp] theorem State.queueInput_halted (b : Byte) : (s.queueInput b).halted = s.halted := rfl
@[simp] theorem State.queueInput_haltBugActive (b : Byte) : (s.queueInput b).haltBugActive = s.haltBugActive := rfl
@[simp] theorem State.queueInput_stepCount (b : Byte) : (s.queueInput b).stepCount = s.stepCount := rfl
@[simp] theorem State.queueInput_tcycles (b : Byte) : (s.queueInput b).tcycles = s.tcycles := rfl
@[simp] theorem State.queueInput_ie (b : Byte) : (s.queueInput b).ie = s.ie := rfl
@[simp] theorem State.queueInput_iflag (b : Byte) : (s.queueInput b).iflag = s.iflag := rfl
@[simp] theorem State.queueInput_joypSelect (b : Byte) : (s.queueInput b).joypSelect = s.joypSelect := rfl
@[simp] theorem State.queueInput_buttons (b : Byte) : (s.queueInput b).buttons = s.buttons := rfl
@[simp] theorem State.queueInput_inputQueue (b : Byte) : (s.queueInput b).inputQueue = s.inputQueue ++ [b] := rfl
@[simp] theorem State.queueInput_timer (b : Byte) : (s.queueInput b).timer = s.timer := rfl
@[simp] theorem State.queueInput_ppu (b : Byte) : (s.queueInput b).ppu = s.ppu := rfl
@[simp] theorem State.queueInput_apu (b : Byte) : (s.queueInput b).apu = s.apu := rfl
@[simp] theorem State.queueInput_audio (b : Byte) : (s.queueInput b).audio = s.audio := rfl
@[simp] theorem State.queueInput_cart (b : Byte) : (s.queueInput b).cart = s.cart := rfl
@[simp] theorem State.queueInput_ram (b : Byte) : (s.queueInput b).ram = s.ram := rfl
@[simp] theorem State.queueInput_params (b : Byte) : (s.queueInput b).params = s.params := rfl

/-! `State.advanceApu` -/

@[simp] theorem State.advanceApu_regs (n : Nat) : (s.advanceApu n).regs = s.regs := rfl
@[simp] theorem State.advanceApu_flags (n : Nat) : (s.advanceApu n).flags = s.flags := rfl
@[simp] theorem State.advanceApu_sp (n : Nat) : (s.advanceApu n).sp = s.sp := rfl
@[simp] theorem State.advanceApu_pc (n : Nat) : (s.advanceApu n).pc = s.pc := rfl
@[simp] theorem State.advanceApu_ime (n : Nat) : (s.advanceApu n).ime = s.ime := rfl
@[simp] theorem State.advanceApu_eiDelayPending (n : Nat) : (s.advanceApu n).eiDelayPending = s.eiDelayPending := rfl
@[simp] theorem State.advanceApu_halted (n : Nat) : (s.advanceApu n).halted = s.halted := rfl
@[simp] theorem State.advanceApu_haltBugActive (n : Nat) : (s.advanceApu n).haltBugActive = s.haltBugActive := rfl
@[simp] theorem State.advanceApu_stepCount (n : Nat) : (s.advanceApu n).stepCount = s.stepCount := rfl
@[simp] theorem State.advanceApu_tcycles (n : Nat) : (s.advanceApu n).tcycles = s.tcycles := rfl
@[simp] theorem State.advanceApu_ie (n : Nat) : (s.advanceApu n).ie = s.ie := rfl
@[simp] theorem State.advanceApu_iflag (n : Nat) : (s.advanceApu n).iflag = s.iflag := rfl
@[simp] theorem State.advanceApu_joypSelect (n : Nat) : (s.advanceApu n).joypSelect = s.joypSelect := rfl
@[simp] theorem State.advanceApu_buttons (n : Nat) : (s.advanceApu n).buttons = s.buttons := rfl
@[simp] theorem State.advanceApu_inputQueue (n : Nat) : (s.advanceApu n).inputQueue = s.inputQueue := rfl
@[simp] theorem State.advanceApu_timer (n : Nat) : (s.advanceApu n).timer = s.timer := rfl
@[simp] theorem State.advanceApu_ppu (n : Nat) : (s.advanceApu n).ppu = s.ppu := rfl
@[simp] theorem State.advanceApu_apu (n : Nat) : (s.advanceApu n).apu = Apu.advance s.ram n s.apu := rfl
@[simp] theorem State.advanceApu_audio (n : Nat) : (s.advanceApu n).audio = Audio.advance s.params s.ram n s.apu s.audio := rfl
@[simp] theorem State.advanceApu_cart (n : Nat) : (s.advanceApu n).cart = s.cart := rfl
@[simp] theorem State.advanceApu_ram (n : Nat) : (s.advanceApu n).ram = s.ram := rfl
@[simp] theorem State.advanceApu_params (n : Nat) : (s.advanceApu n).params = s.params := rfl

/-! `State.afterFetch` -/

@[simp] theorem State.afterFetch_regs : (s.afterFetch).regs = s.regs := rfl
@[simp] theorem State.afterFetch_flags : (s.afterFetch).flags = s.flags := rfl
@[simp] theorem State.afterFetch_sp : (s.afterFetch).sp = s.sp := rfl
@[simp] theorem State.afterFetch_pc : (s.afterFetch).pc = s.operandAddr + BitVec.ofNat 16 (instrLength (s.memRead s.pc) - 1) := rfl
@[simp] theorem State.afterFetch_ime : (s.afterFetch).ime = s.ime := rfl
@[simp] theorem State.afterFetch_eiDelayPending : (s.afterFetch).eiDelayPending = s.eiDelayPending := rfl
@[simp] theorem State.afterFetch_halted : (s.afterFetch).halted = s.halted := rfl
@[simp] theorem State.afterFetch_haltBugActive : (s.afterFetch).haltBugActive = false := rfl
@[simp] theorem State.afterFetch_stepCount : (s.afterFetch).stepCount = s.stepCount := rfl
@[simp] theorem State.afterFetch_tcycles : (s.afterFetch).tcycles = s.tcycles := rfl
@[simp] theorem State.afterFetch_ie : (s.afterFetch).ie = s.ie := rfl
@[simp] theorem State.afterFetch_iflag : (s.afterFetch).iflag = s.iflag := rfl
@[simp] theorem State.afterFetch_joypSelect : (s.afterFetch).joypSelect = s.joypSelect := rfl
@[simp] theorem State.afterFetch_buttons : (s.afterFetch).buttons = s.buttons := rfl
@[simp] theorem State.afterFetch_inputQueue : (s.afterFetch).inputQueue = s.inputQueue := rfl
@[simp] theorem State.afterFetch_timer : (s.afterFetch).timer = s.timer := rfl
@[simp] theorem State.afterFetch_ppu : (s.afterFetch).ppu = s.ppu := rfl
@[simp] theorem State.afterFetch_apu : (s.afterFetch).apu = s.apu := rfl
@[simp] theorem State.afterFetch_audio : (s.afterFetch).audio = s.audio := rfl
@[simp] theorem State.afterFetch_cart : (s.afterFetch).cart = s.cart := rfl
@[simp] theorem State.afterFetch_ram : (s.afterFetch).ram = s.ram := rfl
@[simp] theorem State.afterFetch_params : (s.afterFetch).params = s.params := rfl

/-! `State.returnFromInterrupt` -/

@[simp] theorem State.returnFromInterrupt_regs : (s.returnFromInterrupt).regs = s.regs := rfl
@[simp] theorem State.returnFromInterrupt_flags : (s.returnFromInterrupt).flags = s.flags := rfl
@[simp] theorem State.returnFromInterrupt_sp : (s.returnFromInterrupt).sp = s.sp + 1 + 1 := rfl
@[simp] theorem State.returnFromInterrupt_pc : (s.returnFromInterrupt).pc = s.popValue := rfl
@[simp] theorem State.returnFromInterrupt_ime : (s.returnFromInterrupt).ime = true := rfl
@[simp] theorem State.returnFromInterrupt_eiDelayPending : (s.returnFromInterrupt).eiDelayPending = s.eiDelayPending := rfl
@[simp] theorem State.returnFromInterrupt_halted : (s.returnFromInterrupt).halted = s.halted := rfl
@[simp] theorem State.returnFromInterrupt_haltBugActive : (s.returnFromInterrupt).haltBugActive = s.haltBugActive := rfl
@[simp] theorem State.returnFromInterrupt_stepCount : (s.returnFromInterrupt).stepCount = s.stepCount := rfl
@[simp] theorem State.returnFromInterrupt_tcycles : (s.returnFromInterrupt).tcycles = s.tcycles := rfl
@[simp] theorem State.returnFromInterrupt_ie : (s.returnFromInterrupt).ie = s.ie := rfl
@[simp] theorem State.returnFromInterrupt_iflag : (s.returnFromInterrupt).iflag = s.iflag := rfl
@[simp] theorem State.returnFromInterrupt_joypSelect : (s.returnFromInterrupt).joypSelect = s.joypSelect := rfl
@[simp] theorem State.returnFromInterrupt_buttons : (s.returnFromInterrupt).buttons = s.buttons := rfl
@[simp] theorem State.returnFromInterrupt_inputQueue : (s.returnFromInterrupt).inputQueue = s.inputQueue := rfl
@[simp] theorem State.returnFromInterrupt_timer : (s.returnFromInterrupt).timer = s.timer := rfl
@[simp] theorem State.returnFromInterrupt_ppu : (s.returnFromInterrupt).ppu = s.ppu := rfl
@[simp] theorem State.returnFromInterrupt_apu : (s.returnFromInterrupt).apu = s.apu := rfl
@[simp] theorem State.returnFromInterrupt_audio : (s.returnFromInterrupt).audio = s.audio := rfl
@[simp] theorem State.returnFromInterrupt_cart : (s.returnFromInterrupt).cart = s.cart := rfl
@[simp] theorem State.returnFromInterrupt_ram : (s.returnFromInterrupt).ram = s.ram := rfl
@[simp] theorem State.returnFromInterrupt_params : (s.returnFromInterrupt).params = s.params := rfl

/-! `State.takeSamples`, the state it leaves -/

@[simp] theorem State.takeSamples_regs (n : Nat) : (s.takeSamples n).after.regs = s.regs := rfl
@[simp] theorem State.takeSamples_flags (n : Nat) : (s.takeSamples n).after.flags = s.flags := rfl
@[simp] theorem State.takeSamples_sp (n : Nat) : (s.takeSamples n).after.sp = s.sp := rfl
@[simp] theorem State.takeSamples_pc (n : Nat) : (s.takeSamples n).after.pc = s.pc := rfl
@[simp] theorem State.takeSamples_ime (n : Nat) : (s.takeSamples n).after.ime = s.ime := rfl
@[simp] theorem State.takeSamples_eiDelayPending (n : Nat) : (s.takeSamples n).after.eiDelayPending = s.eiDelayPending := rfl
@[simp] theorem State.takeSamples_halted (n : Nat) : (s.takeSamples n).after.halted = s.halted := rfl
@[simp] theorem State.takeSamples_haltBugActive (n : Nat) : (s.takeSamples n).after.haltBugActive = s.haltBugActive := rfl
@[simp] theorem State.takeSamples_stepCount (n : Nat) : (s.takeSamples n).after.stepCount = s.stepCount := rfl
@[simp] theorem State.takeSamples_tcycles (n : Nat) : (s.takeSamples n).after.tcycles = s.tcycles := rfl
@[simp] theorem State.takeSamples_ie (n : Nat) : (s.takeSamples n).after.ie = s.ie := rfl
@[simp] theorem State.takeSamples_iflag (n : Nat) : (s.takeSamples n).after.iflag = s.iflag := rfl
@[simp] theorem State.takeSamples_joypSelect (n : Nat) : (s.takeSamples n).after.joypSelect = s.joypSelect := rfl
@[simp] theorem State.takeSamples_buttons (n : Nat) : (s.takeSamples n).after.buttons = s.buttons := rfl
@[simp] theorem State.takeSamples_inputQueue (n : Nat) : (s.takeSamples n).after.inputQueue = s.inputQueue := rfl
@[simp] theorem State.takeSamples_timer (n : Nat) : (s.takeSamples n).after.timer = s.timer := rfl
@[simp] theorem State.takeSamples_ppu (n : Nat) : (s.takeSamples n).after.ppu = s.ppu := rfl
@[simp] theorem State.takeSamples_apu (n : Nat) : (s.takeSamples n).after.apu = s.apu := rfl
@[simp] theorem State.takeSamples_audio (n : Nat) : (s.takeSamples n).after.audio = { s.audio with samples := s.audio.samples.drop n } := rfl
@[simp] theorem State.takeSamples_cart (n : Nat) : (s.takeSamples n).after.cart = s.cart := rfl
@[simp] theorem State.takeSamples_ram (n : Nat) : (s.takeSamples n).after.ram = s.ram := rfl
@[simp] theorem State.takeSamples_params (n : Nat) : (s.takeSamples n).after.params = s.params := rfl

/-! `State.charge`: its T-cycles are those of `CYCLE_TABLE`, everything else is as the meaning left it. -/

theorem State.charge_standard {s : State} (h : s.params.cycleTable = none) (t : State) : s.charge t = t := by
  simp [State.charge, h]

theorem State.charge_table {s : State} {c : CycleTable} (h : s.params.cycleTable = some c) (t : State) :
    s.charge t = { t with
      tcycles := cycleCount (cycleEntry c s.fetchBytes.1 s.fetchBytes.2.1) (branchTaken s.fetched s.flags) } := by
  simp [State.charge, h]

/-- In both cases, so that no later proof splits on the table. -/
theorem State.charge_only_tcycles (t : State) : s.charge t = { t with tcycles := (s.charge t).tcycles } := by
  unfold State.charge; split <;> rfl

/-! Registers written, then read. -/

@[simp] theorem Regs.get_set_same (g : Regs) (r : Reg8) (v : Byte) : (g.set r v).get r = v := by cases r <;> rfl

theorem Regs.get_set_other (g : Regs) {r q : Reg8} (h : q ≠ r) (v : Byte) : (g.set r v).get q = g.get q := by
  cases r <;> cases q <;> first | rfl | exact absurd rfl h

@[simp] theorem Regs.set_get (g : Regs) (r : Reg8) : g.set r (g.get r) = g := by cases r <;> rfl

/-! Pairs written, then read (10_state.md R32). -/

@[simp] theorem wordOf_lo_hi (w : Word) : wordOf (loByte w) (hiByte w) = w := by
  apply BitVec.eq_of_getLsbD_eq
  intro i hi
  simp only [wordOf, loByte, hiByte, BitVec.getLsbD_append, BitVec.getLsbD_extractLsb']
  by_cases h : i < 8
  · simp [h]
  · have e : 8 + (i - 8) = i := by omega
    have l : i - 8 < 8 := by omega
    simp [h, e, l]

@[simp] theorem State.setBc_bc (v : Word) : (s.setBc v).bc = v := by simp [State.bc, State.setBc]
@[simp] theorem State.setDe_de (v : Word) : (s.setDe v).de = v := by simp [State.de, State.setDe]
@[simp] theorem State.setHl_hl (v : Word) : (s.setHl v).hl = v := by simp [State.hl, State.setHl]

/-- F read back as a byte: the low nibble is 0 (10_state.md R31, R35). -/
theorem Flags.toByte_ofByte (v : Byte) : (Flags.ofByte v).toByte = v &&& 0xF0 := by revert v; decide

@[simp] theorem Flags.ofByte_toByte (f : Flags) : Flags.ofByte f.toByte = f := by
  rcases f with ⟨_ | _, _ | _, _ | _, _ | _⟩ <;> rfl

end Sys2Proof.Machine
end

