-- ==== Sys2Proof/Laws/Bus.lean ====
section
/-! SUPPORT. Every memory operation keeps the canonical form of the byte arrays, and the regions of the address map. -/

namespace Sys2Proof.Machine

/-! ### The canonical form -/

/-- All three byte arrays are in canonical form. -/
def State.ArraysWf (s : State) : Prop := s.ram.wf = true ∧ s.cart.rom.wf = true ∧ s.cart.xram.wf = true

theorem State.writeArray_wf (s : State) (a : Nat) (v : Byte) (h : s.ArraysWf) : (s.writeArray a v).ArraysWf :=
  ⟨Memory.wf_write _ _ _ h.1, h.2⟩

theorem State.dmaBytes_wf (v : Byte) (l : List Nat) (s : State) (h : s.ArraysWf) :
    (l.foldl (State.dmaByte v) s).ArraysWf := by
  induction l generalizing s with
  | nil => exact h
  | cons i l ih => exact ih _ (State.writeArray_wf _ _ _ h)

theorem State.oamDma_wf (s : State) (v : Byte) (h : s.ArraysWf) : (s.oamDma v).ArraysWf :=
  State.dmaBytes_wf _ _ _ h

theorem State.writeOam_wf (s : State) (a : Nat) (v : Byte) (h : s.ArraysWf) : (s.writeOam a v).ArraysWf := by
  unfold State.writeOam
  split
  · exact h
  all_goals exact State.writeArray_wf _ _ _ h

theorem Cartridge.writeRam_xram_wf (c : Cartridge) (a : Nat) (v : Byte) (h : c.xram.wf = true) :
    (c.writeRam a v).xram.wf = true := by
  unfold Cartridge.writeRam
  split
  · exact h
  · exact Memory.wf_write _ _ _ h

theorem Cartridge.writeRam_rom (c : Cartridge) (a : Nat) (v : Byte) : (c.writeRam a v).rom = c.rom := by
  unfold Cartridge.writeRam; split <;> rfl

theorem Cartridge.loadSram_wf (c : Cartridge) (buf : List Byte) (h : c.xram.wf = true) :
    (c.loadSram buf).xram.wf = true := Memory.wf_writeBytes _ _ _ h

theorem State.ioWrite_wf (s : State) (reg : Nat) (v : Byte) (h : s.ArraysWf) : (s.ioWrite reg v).ArraysWf := by
  unfold State.ioWrite
  split
  case h_12 => exact State.oamDma_wf s v h
  case h_18 =>
    split
    · exact h
    · split
      · exact State.writeArray_wf _ _ _ h
      · exact h
  all_goals exact h

/-- The write contract keeps the canonical form of every array. -/
theorem State.memWrite_wf (s : State) (a : Word) (v : Byte) (h : s.ArraysWf) : (s.memWrite a v).ArraysWf := by
  simp only [State.memWrite]
  split
  · exact h
  · split
    · exact State.writeArray_wf _ _ _ h
    · exact h
  · exact ⟨h.1, by rw [show (s.cart.writeRam a.toNat v).rom = s.cart.rom from Cartridge.writeRam_rom ..]; exact h.2.1,
      Cartridge.writeRam_xram_wf _ _ _ h.2.2⟩
  · exact State.writeArray_wf _ _ _ h
  · exact State.writeArray_wf _ _ _ h
  · exact State.writeOam_wf _ _ _ h
  · exact h
  · exact State.ioWrite_wf _ _ _ h
  · exact State.writeArray_wf _ _ _ h
  · exact h

/-- The devices' advance writes no array (62_ppu.md R508, 63_apu.md R565). -/
theorem State.advanceDevices_wf (s : State) (n : Nat) (h : s.ArraysWf) : (s.advanceDevices n).ArraysWf := h

theorem State.plantRom_wf (s : State) (a : Nat) (b : Byte) (h : s.ArraysWf) : (s.plantRom a b).ArraysWf :=
  ⟨h.1, Memory.wf_write _ _ _ h.2.1, h.2.2⟩

/-- Putting a program in keeps the canonical form. -/
theorem State.plant_wf (s : State) (b0 b1 b2 : Byte) (h : s.ArraysWf) : (s.plant b0 b1 b2).ArraysWf := by
  simp only [State.plant]
  split
  · exact State.plantRom_wf _ _ _ (State.plantRom_wf _ _ _ (State.plantRom_wf _ _ _ h))
  · split
    · exact State.writeArray_wf _ _ _ (State.writeArray_wf _ _ _ (State.writeArray_wf _ _ _ h))
    · exact State.writeArray_wf _ _ _ (State.writeArray_wf _ _ _ (State.writeArray_wf _ _ _ h))

/-- The state after reset has every array in canonical form when the draws and the cartridge do. -/
theorem State.resetWith_wf (p : Params) (io : PostBootIo) (c : Cartridge) (draws : Memory) (hd : draws.wf = true)
    (hr : c.rom.wf = true) (hx : c.xram.wf = true) : (State.resetWith p io c draws).ArraysWf := ⟨hd, hr, hx⟩

/-! ### The regions (20_memory.md R77) -/

theorem regionOf_rom {a : Nat} (h : a < 0x8000) : regionOf a = .rom := by simp [regionOf, h]
theorem regionOf_vram {a : Nat} (h : 0x8000 ≤ a) (k : a < 0xA000) : regionOf a = .vram := by
  simp [regionOf, show ¬ a < 0x8000 by omega, k]
theorem regionOf_xram {a : Nat} (h : 0xA000 ≤ a) (k : a < 0xC000) : regionOf a = .xram := by
  simp [regionOf, show ¬ a < 0x8000 by omega, show ¬ a < 0xA000 by omega, k]
theorem regionOf_wram {a : Nat} (h : 0xC000 ≤ a) (k : a < 0xE000) : regionOf a = .wram := by
  simp [regionOf, show ¬ a < 0x8000 by omega, show ¬ a < 0xA000 by omega, show ¬ a < 0xC000 by omega, k]

theorem regionOf_io {a : Nat} (h : 0xFF00 ≤ a) (k : a < 0xFF80) : regionOf a = .io := by
  simp [regionOf, show ¬ a < 0x8000 by omega, show ¬ a < 0xA000 by omega, show ¬ a < 0xC000 by omega,
    show ¬ a < 0xE000 by omega, show ¬ a < 0xFE00 by omega, show ¬ a < 0xFEA0 by omega, show ¬ a < 0xFF00 by omega, k]

/-- An access to an I/O address goes to its register (20_memory.md R86, R96). -/
theorem State.memRead_io (s : State) {a : Word} (h : 0xFF00 ≤ a.toNat) (k : a.toNat ≤ 0xFF7F) :
    s.memRead a = s.ioRead (a.toNat - 0xFF00) := by
  simp only [State.memRead, regionOf_io h (Nat.lt_succ_of_le k)]

theorem State.memWrite_io (s : State) {a : Word} (h : 0xFF00 ≤ a.toNat) (k : a.toNat ≤ 0xFF7F) (v : Byte) :
    s.memWrite a v = s.ioWrite (a.toNat - 0xFF00) v := by
  simp only [State.memWrite, regionOf_io h (Nat.lt_succ_of_le k)]

/-- The bounds of each region. -/
theorem regionOf_bounds (a : Nat) :
    match regionOf a with
    | .rom => a < 0x8000
    | .vram => 0x8000 ≤ a ∧ a < 0xA000
    | .xram => 0xA000 ≤ a ∧ a < 0xC000
    | .wram => 0xC000 ≤ a ∧ a < 0xE000
    | .echo => 0xE000 ≤ a ∧ a < 0xFE00
    | .oam => 0xFE00 ≤ a ∧ a < 0xFEA0
    | .prohibited => 0xFEA0 ≤ a ∧ a < 0xFF00
    | .io => 0xFF00 ≤ a ∧ a < 0xFF80
    | .hram => 0xFF80 ≤ a ∧ a < 0xFFFF
    | .ie => 0xFFFF ≤ a := by
  generalize h : regionOf a = r
  unfold regionOf at h
  repeat' split at h
  all_goals (subst h; dsimp only; omega)

end Sys2Proof.Machine
end

