-- ==== Sys2Proof/Laws/Meaning.lean ====
section
/-! SUPPORT. What each shared operation answers, said once, and what a meaning can do to the bus: CPU-only updates and
stores through the write contract, and nothing else. -/

namespace Sys2Proof.Machine

/-! ### What each shared operation answers -/

theorem finish_next (t : Nat) (s : State) : finish t s = .next { s with tcycles := t } := rfl

theorem loadReg_next (dst src : Reg8) (s : State) :
    loadReg dst src s = .next { s.setR dst (s.getR src) with tcycles := 4 } := rfl

theorem loadImm_next (dst : Reg8) (n : Byte) (s : State) : loadImm dst n s = .next { s.setR dst n with tcycles := 8 } := rfl

theorem loadAtHl_next (dst : Reg8) (s : State) :
    loadAtHl dst s = .next { s.setR dst (s.memRead s.hl) with tcycles := 8 } := rfl

theorem storeAtHl_next (r : Reg8) (s : State) :
    storeAtHl r s = .next { s.memWrite s.hl (s.getR r) with tcycles := 8 } := rfl

theorem loadA_next (t : Nat) (a : Word) (s : State) :
    loadA t a s = .next { s.setR .a (s.memRead a) with tcycles := t } := rfl

theorem storeA_next (t : Nat) (a : Word) (s : State) :
    storeA t a s = .next { s.memWrite a (s.getR .a) with tcycles := t } := rfl

theorem loadPair_next (p : Pair) (nn : Word) (s : State) :
    loadPair p nn s = .next { s.setPair p nn with tcycles := 12 } := rfl

theorem pushPair_next (p : StackPair) (s : State) :
    pushPair p s = .next { s.push16 (s.getStackPair p) with tcycles := 16 } := rfl

theorem popPair_next (p : StackPair) (s : State) :
    popPair p s = .next { s.popped.setStackPair p s.popValue with tcycles := 12 } := rfl

theorem aluA_next (op : AluOp) (src : Src8) (s : State) :
    aluA op src s = .next { s.setR .a (op.apply (s.getR .a) (src.value s) s.flags).value with
      flags := (op.apply (s.getR .a) (src.value s) s.flags).flags, tcycles := src.cycles } := rfl

theorem incReg_next (r : Reg8) (s : State) :
    incReg r s = .next { s.setR r (inc8 (s.getR r) s.flags).value with
      flags := (inc8 (s.getR r) s.flags).flags, tcycles := 4 } := rfl

theorem decReg_next (r : Reg8) (s : State) :
    decReg r s = .next { s.setR r (dec8 (s.getR r) s.flags).value with
      flags := (dec8 (s.getR r) s.flags).flags, tcycles := 4 } := rfl

theorem modifyAtHl_next (t : Nat) (o : Out8) (s : State) :
    modifyAtHl t o s = .next { s.memWrite s.hl o.value with flags := o.flags, tcycles := t } := rfl

theorem addPair_next (p : Pair) (s : State) :
    addPair p s = .next { s.setHl (addHl s.hl (s.getPair p) s.flags).value with
      flags := (addHl s.hl (s.getPair p) s.flags).flags, tcycles := 8 } := rfl

theorem incPair_next (p : Pair) (s : State) :
    incPair p s = .next { s.setPair p (s.getPair p + 1) with tcycles := 8 } := rfl

theorem decPair_next (p : Pair) (s : State) :
    decPair p s = .next { s.setPair p (s.getPair p - 1) with tcycles := 8 } := rfl

theorem rotateA_next (op : RotOp) (s : State) :
    rotateA op s = .next { s.setR .a (op.applyA (s.getR .a) s.flags).value with
      flags := (op.applyA (s.getR .a) s.flags).flags, tcycles := 4 } := rfl

theorem jumpIf_next (cc : Cond) (nn : Word) (s : State) :
    jumpIf cc nn s = .next (if cc.holds s.flags then { s with pc := nn, tcycles := 16 }
      else { s with tcycles := 12 }) := by
  unfold jumpIf; split <;> rfl

theorem jumpRelIf_next (cc : Cond) (e : Byte) (s : State) :
    jumpRelIf cc e s = .next (if cc.holds s.flags then { s with pc := s.relative e, tcycles := 12 }
      else { s with tcycles := 8 }) := by
  unfold jumpRelIf; split <;> rfl

theorem callIf_next (cc : Cond) (nn : Word) (s : State) :
    callIf cc nn s = .next (if cc.holds s.flags then { s.call nn with tcycles := 24 }
      else { s with tcycles := 12 }) := by
  unfold callIf; split <;> rfl

theorem returnIf_next (cc : Cond) (s : State) :
    returnIf cc s = .next (if cc.holds s.flags then { s.return with tcycles := 20 }
      else { s with tcycles := 8 }) := by
  unfold returnIf; split <;> rfl

theorem restart_next (t : Word) (s : State) : restart t s = .next { s.call t with tcycles := 16 } := rfl

theorem rotateTarget_next (op : RotOp) (t : Target) (s : State) :
    rotateTarget op t s = .next { t.set s (op.apply (t.get s) s.flags).value with
      flags := (op.apply (t.get s) s.flags).flags, tcycles := t.cycles } := rfl

theorem bitTest_next (b : Nat) (t : Target) (s : State) :
    bitTest b t s = .next { s with flags := bitFlags (t.get s) b s.flags, tcycles := t.bitCycles } := rfl

theorem bitReset_next (b : Nat) (t : Target) (s : State) :
    bitReset b t s = .next { t.set s (t.get s &&& ~~~(1#8 <<< b)) with tcycles := t.cycles } := rfl

theorem bitSet_next (b : Nat) (t : Target) (s : State) :
    bitSet b t s = .next { t.set s (t.get s ||| 1#8 <<< b) with tcycles := t.cycles } := rfl

/-! ### What a meaning can do to the bus -/

/-- Two states with the same devices, byte arrays and host side: they differ in CPU registers and hidden CPU state. -/
def State.SameBus (t u : State) : Prop :=
  u = { t with regs := u.regs, flags := u.flags, sp := u.sp, pc := u.pc, ime := u.ime,
               eiDelayPending := u.eiDelayPending, halted := u.halted, haltBugActive := u.haltBugActive,
               tcycles := u.tcycles }

/-- The states reached from `s` by CPU-only updates and stores through the write contract. -/
inductive CpuPath (s : State) : State → Prop
  | refl : CpuPath s s
  | cpu {t u : State} (h : CpuPath s t) (e : t.SameBus u) : CpuPath s u
  | store {t : State} (h : CpuPath s t) (a : Word) (v : Byte) : CpuPath s (t.memWrite a v)

/-- What every state of a path has when the first has it and both kinds of edge keep it. -/
theorem CpuPath.keeps {P : State → Prop} {s t : State} (h : CpuPath s t) (hs : P s)
    (hc : ∀ t u : State, t.SameBus u → P t → P u) (hw : ∀ (t : State) (a : Word) (v : Byte), P t → P (t.memWrite a v)) :
    P t := by
  induction h with
  | refl => exact hs
  | cpu _ e ih => exact hc _ _ e ih
  | store _ a v ih => exact hw _ a v ih

theorem CpuPath.one {s u : State} (e : s.SameBus u) : CpuPath s u := .cpu .refl e

theorem CpuPath.trans {s t u : State} (h : CpuPath s t) (k : CpuPath t u) : CpuPath s u := by
  induction k with
  | refl => exact h
  | cpu _ e ih => exact .cpu ih e
  | store _ a v ih => exact .store ih a v

theorem setR_path (s : State) (r : Reg8) (v : Byte) : CpuPath s (s.setR r v) := .one rfl

theorem setPair_path (s : State) (p : Pair) (v : Word) : CpuPath s (s.setPair p v) := by cases p <;> exact .one rfl

theorem setStackPair_path (s : State) (p : StackPair) (v : Word) : CpuPath s (s.setStackPair p v) := by
  cases p <;> exact .one rfl

theorem pushByte_path (s : State) (v : Byte) : CpuPath s (s.pushByte v) :=
  .store (t := { s with sp := s.sp - 1 }) (.one rfl) _ v

theorem push16_path (s : State) (v : Word) : CpuPath s (s.push16 v) := (pushByte_path s _).trans (pushByte_path _ _)

theorem call_path (s : State) (t : Word) : CpuPath s (s.call t) := .cpu (push16_path s s.pc) rfl

theorem memWrite16_path (s : State) (a v : Word) : CpuPath s (s.memWrite16 a v) := .store (.store .refl a _) _ _

theorem Target.set_path (t : Target) (s : State) (v : Byte) : CpuPath s (t.set s v) := by
  cases t with
  | reg r => exact setR_path s r v
  | atHl => exact .store .refl s.hl v

/-! ### One line per shared operation -/

section
variable {s t : State}

theorem finish_path {n : Nat} {u : State} (h : finish n u = .next t) (p : CpuPath s u) : CpuPath s t := by
  cases h; exact .cpu p rfl

theorem loadReg_path {dst src : Reg8} (h : loadReg dst src s = .next t) : CpuPath s t := finish_path h (setR_path ..)
theorem loadImm_path {dst : Reg8} {n : Byte} (h : loadImm dst n s = .next t) : CpuPath s t := finish_path h (setR_path ..)
theorem loadAtHl_path {dst : Reg8} (h : loadAtHl dst s = .next t) : CpuPath s t := finish_path h (setR_path ..)
theorem storeAtHl_path {r : Reg8} (h : storeAtHl r s = .next t) : CpuPath s t := finish_path h (.store .refl _ _)
theorem loadA_path {n : Nat} {a : Word} (h : loadA n a s = .next t) : CpuPath s t := finish_path h (setR_path ..)
theorem storeA_path {n : Nat} {a : Word} (h : storeA n a s = .next t) : CpuPath s t := finish_path h (.store .refl _ _)
theorem storeAMove_path {m : Word} (h : storeAMove m s = .next t) : CpuPath s t :=
  finish_path h (.cpu (t := s.memWrite s.hl (s.getR .a)) (.store .refl _ _) rfl)
theorem loadAMove_path {m : Word} (h : loadAMove m s = .next t) : CpuPath s t := finish_path h (.one rfl)
theorem loadPair_path {p : Pair} {nn : Word} (h : loadPair p nn s = .next t) : CpuPath s t :=
  finish_path h (setPair_path ..)
theorem pushPair_path {p : StackPair} (h : pushPair p s = .next t) : CpuPath s t := finish_path h (push16_path ..)
theorem popPair_path {p : StackPair} (h : popPair p s = .next t) : CpuPath s t :=
  finish_path h (CpuPath.trans (t := s.popped) (.one rfl) (setStackPair_path ..))
theorem aluA_path {op : AluOp} {src : Src8} (h : aluA op src s = .next t) : CpuPath s t := finish_path h (.one rfl)
theorem incReg_path {r : Reg8} (h : incReg r s = .next t) : CpuPath s t := finish_path h (.one rfl)
theorem decReg_path {r : Reg8} (h : decReg r s = .next t) : CpuPath s t := finish_path h (.one rfl)
theorem modifyAtHl_path {n : Nat} {o : Out8} (h : modifyAtHl n o s = .next t) : CpuPath s t :=
  finish_path h (.cpu (t := s.memWrite s.hl o.value) (.store .refl _ _) rfl)
theorem addPair_path {p : Pair} (h : addPair p s = .next t) : CpuPath s t := finish_path h (.one rfl)
theorem incPair_path {p : Pair} (h : incPair p s = .next t) : CpuPath s t := finish_path h (setPair_path ..)
theorem decPair_path {p : Pair} (h : decPair p s = .next t) : CpuPath s t := finish_path h (setPair_path ..)
theorem rotateA_path {op : RotOp} (h : rotateA op s = .next t) : CpuPath s t := finish_path h (.one rfl)
theorem jumpIf_path {cc : Cond} {nn : Word} (h : jumpIf cc nn s = .next t) : CpuPath s t := by
  unfold jumpIf at h; split at h <;> exact finish_path h (.one rfl)
theorem jumpRelIf_path {cc : Cond} {e : Byte} (h : jumpRelIf cc e s = .next t) : CpuPath s t := by
  unfold jumpRelIf at h; split at h <;> exact finish_path h (.one rfl)
theorem callIf_path {cc : Cond} {nn : Word} (h : callIf cc nn s = .next t) : CpuPath s t := by
  unfold callIf at h; split at h
  · exact finish_path h (call_path ..)
  · exact finish_path h .refl
theorem returnIf_path {cc : Cond} (h : returnIf cc s = .next t) : CpuPath s t := by
  unfold returnIf at h; split at h <;> exact finish_path h (.one rfl)
theorem restart_path {a : Word} (h : restart a s = .next t) : CpuPath s t := finish_path h (call_path ..)
theorem noOperation_path (h : noOperation s = .next t) : CpuPath s t := finish_path h .refl
theorem rotateTarget_path {op : RotOp} {g : Target} (h : rotateTarget op g s = .next t) : CpuPath s t :=
  finish_path h (.cpu (Target.set_path g s (op.apply (g.get s) s.flags).value) rfl)
theorem bitTest_path {b : Nat} {g : Target} (h : bitTest b g s = .next t) : CpuPath s t := finish_path h (.one rfl)
theorem bitReset_path {b : Nat} {g : Target} (h : bitReset b g s = .next t) : CpuPath s t :=
  finish_path h (Target.set_path ..)
theorem bitSet_path {b : Nat} {g : Target} (h : bitSet b g s = .next t) : CpuPath s t :=
  finish_path h (Target.set_path ..)
theorem cbEntry_path {c : Byte} (h : cbEntry c s = .next t) : CpuPath s t := by
  unfold cbEntry at h
  dsimp only at h
  split at h
  · exact rotateTarget_path h
  · exact bitTest_path h
  · exact bitReset_path h
  · exact bitSet_path h
theorem exec_halt_path (h : exec_halt s = .next t) : CpuPath s t := by
  unfold exec_halt at h
  split at h
  · exact finish_path h (.one rfl)
  · split at h <;> exact finish_path h (.one rfl)

/-- A meaning's next state is reached by CPU-only updates and stores. -/
theorem exec_path {i : Instr} (h : exec i s = .next t) : CpuPath s t := by
  cases i with
  | ld_bc_nn _ => exact loadPair_path h
  | ld_b_n _ => exact loadImm_path h
  | ld_atNn_sp _ => exact finish_path h (memWrite16_path ..)
  | ld_c_n _ => exact loadImm_path h
  | stop _ => exact finish_path h (.one rfl)
  | ld_de_nn _ => exact loadPair_path h
  | ld_d_n _ => exact loadImm_path h
  | jr_e _ => exact finish_path h (.one rfl)
  | ld_e_n _ => exact loadImm_path h
  | jr_nz_e _ => exact jumpRelIf_path h
  | ld_hl_nn _ => exact loadPair_path h
  | ld_h_n _ => exact loadImm_path h
  | jr_z_e _ => exact jumpRelIf_path h
  | ld_l_n _ => exact loadImm_path h
  | jr_nc_e _ => exact jumpRelIf_path h
  | ld_sp_nn _ => exact loadPair_path h
  | ld_atHl_n _ => exact finish_path h (.store .refl _ _)
  | jr_c_e _ => exact jumpRelIf_path h
  | ld_a_n _ => exact loadImm_path h
  | jp_nz_nn _ => exact jumpIf_path h
  | jp_nn _ => exact finish_path h (.one rfl)
  | call_nz_nn _ => exact callIf_path h
  | add_a_n _ => exact aluA_path h
  | jp_z_nn _ => exact jumpIf_path h
  | prefix_cb _ => exact cbEntry_path h
  | call_z_nn _ => exact callIf_path h
  | call_nn _ => exact finish_path h (call_path ..)
  | adc_a_n _ => exact aluA_path h
  | jp_nc_nn _ => exact jumpIf_path h
  | call_nc_nn _ => exact callIf_path h
  | sub_n _ => exact aluA_path h
  | jp_c_nn _ => exact jumpIf_path h
  | call_c_nn _ => exact callIf_path h
  | sbc_a_n _ => exact aluA_path h
  | ldh_atN_a _ => exact storeA_path h
  | and_n _ => exact aluA_path h
  | add_sp_e _ => exact finish_path h (.one rfl)
  | ld_atNn_a _ => exact storeA_path h
  | xor_n _ => exact aluA_path h
  | ldh_a_atN _ => exact loadA_path h
  | or_n _ => exact aluA_path h
  | ld_hl_spE _ => exact finish_path h (.one rfl)
  | ld_a_atNn _ => exact loadA_path h
  | cp_n _ => exact aluA_path h
  | nop => exact noOperation_path h
  | ld_atBc_a => exact storeA_path h
  | inc_bc => exact incPair_path h
  | inc_b => exact incReg_path h
  | dec_b => exact decReg_path h
  | rlca => exact rotateA_path h
  | add_hl_bc => exact addPair_path h
  | ld_a_atBc => exact loadA_path h
  | dec_bc => exact decPair_path h
  | inc_c => exact incReg_path h
  | dec_c => exact decReg_path h
  | rrca => exact rotateA_path h
  | ld_atDe_a => exact storeA_path h
  | inc_de => exact incPair_path h
  | inc_d => exact incReg_path h
  | dec_d => exact decReg_path h
  | rla => exact rotateA_path h
  | add_hl_de => exact addPair_path h
  | ld_a_atDe => exact loadA_path h
  | dec_de => exact decPair_path h
  | inc_e => exact incReg_path h
  | dec_e => exact decReg_path h
  | rra => exact rotateA_path h
  | ld_atHlInc_a => exact storeAMove_path h
  | inc_hl => exact incPair_path h
  | inc_h => exact incReg_path h
  | dec_h => exact decReg_path h
  | daa => exact finish_path h (.one rfl)
  | add_hl_hl => exact addPair_path h
  | ld_a_atHlInc => exact loadAMove_path h
  | dec_hl => exact decPair_path h
  | inc_l => exact incReg_path h
  | dec_l => exact decReg_path h
  | cpl => exact finish_path h (.one rfl)
  | ld_atHlDec_a => exact storeAMove_path h
  | inc_sp => exact incPair_path h
  | inc_atHl => exact modifyAtHl_path h
  | dec_atHl => exact modifyAtHl_path h
  | scf => exact finish_path h (.one rfl)
  | add_hl_sp => exact addPair_path h
  | ld_a_atHlDec => exact loadAMove_path h
  | dec_sp => exact decPair_path h
  | inc_a => exact incReg_path h
  | dec_a => exact decReg_path h
  | ccf => exact finish_path h (.one rfl)
  | ld_b_b => exact loadReg_path h
  | ld_b_c => exact loadReg_path h
  | ld_b_d => exact loadReg_path h
  | ld_b_e => exact loadReg_path h
  | ld_b_h => exact loadReg_path h
  | ld_b_l => exact loadReg_path h
  | ld_b_atHl => exact loadAtHl_path h
  | ld_b_a => exact loadReg_path h
  | ld_c_b => exact loadReg_path h
  | ld_c_c => exact loadReg_path h
  | ld_c_d => exact loadReg_path h
  | ld_c_e => exact loadReg_path h
  | ld_c_h => exact loadReg_path h
  | ld_c_l => exact loadReg_path h
  | ld_c_atHl => exact loadAtHl_path h
  | ld_c_a => exact loadReg_path h
  | ld_d_b => exact loadReg_path h
  | ld_d_c => exact loadReg_path h
  | ld_d_d => exact loadReg_path h
  | ld_d_e => exact loadReg_path h
  | ld_d_h => exact loadReg_path h
  | ld_d_l => exact loadReg_path h
  | ld_d_atHl => exact loadAtHl_path h
  | ld_d_a => exact loadReg_path h
  | ld_e_b => exact loadReg_path h
  | ld_e_c => exact loadReg_path h
  | ld_e_d => exact loadReg_path h
  | ld_e_e => exact loadReg_path h
  | ld_e_h => exact loadReg_path h
  | ld_e_l => exact loadReg_path h
  | ld_e_atHl => exact loadAtHl_path h
  | ld_e_a => exact loadReg_path h
  | ld_h_b => exact loadReg_path h
  | ld_h_c => exact loadReg_path h
  | ld_h_d => exact loadReg_path h
  | ld_h_e => exact loadReg_path h
  | ld_h_h => exact loadReg_path h
  | ld_h_l => exact loadReg_path h
  | ld_h_atHl => exact loadAtHl_path h
  | ld_h_a => exact loadReg_path h
  | ld_l_b => exact loadReg_path h
  | ld_l_c => exact loadReg_path h
  | ld_l_d => exact loadReg_path h
  | ld_l_e => exact loadReg_path h
  | ld_l_h => exact loadReg_path h
  | ld_l_l => exact loadReg_path h
  | ld_l_atHl => exact loadAtHl_path h
  | ld_l_a => exact loadReg_path h
  | ld_atHl_b => exact storeAtHl_path h
  | ld_atHl_c => exact storeAtHl_path h
  | ld_atHl_d => exact storeAtHl_path h
  | ld_atHl_e => exact storeAtHl_path h
  | ld_atHl_h => exact storeAtHl_path h
  | ld_atHl_l => exact storeAtHl_path h
  | halt => exact exec_halt_path h
  | ld_atHl_a => exact storeAtHl_path h
  | ld_a_b => exact loadReg_path h
  | ld_a_c => exact loadReg_path h
  | ld_a_d => exact loadReg_path h
  | ld_a_e => exact loadReg_path h
  | ld_a_h => exact loadReg_path h
  | ld_a_l => exact loadReg_path h
  | ld_a_atHl => exact loadAtHl_path h
  | ld_a_a => exact loadReg_path h
  | add_a_b => exact aluA_path h
  | add_a_c => exact aluA_path h
  | add_a_d => exact aluA_path h
  | add_a_e => exact aluA_path h
  | add_a_h => exact aluA_path h
  | add_a_l => exact aluA_path h
  | add_a_atHl => exact aluA_path h
  | add_a_a => exact aluA_path h
  | adc_a_b => exact aluA_path h
  | adc_a_c => exact aluA_path h
  | adc_a_d => exact aluA_path h
  | adc_a_e => exact aluA_path h
  | adc_a_h => exact aluA_path h
  | adc_a_l => exact aluA_path h
  | adc_a_atHl => exact aluA_path h
  | adc_a_a => exact aluA_path h
  | sub_b => exact aluA_path h
  | sub_c => exact aluA_path h
  | sub_d => exact aluA_path h
  | sub_e => exact aluA_path h
  | sub_h => exact aluA_path h
  | sub_l => exact aluA_path h
  | sub_atHl => exact aluA_path h
  | sub_a => exact aluA_path h
  | sbc_a_b => exact aluA_path h
  | sbc_a_c => exact aluA_path h
  | sbc_a_d => exact aluA_path h
  | sbc_a_e => exact aluA_path h
  | sbc_a_h => exact aluA_path h
  | sbc_a_l => exact aluA_path h
  | sbc_a_atHl => exact aluA_path h
  | sbc_a_a => exact aluA_path h
  | and_b => exact aluA_path h
  | and_c => exact aluA_path h
  | and_d => exact aluA_path h
  | and_e => exact aluA_path h
  | and_h => exact aluA_path h
  | and_l => exact aluA_path h
  | and_atHl => exact aluA_path h
  | and_a => exact aluA_path h
  | xor_b => exact aluA_path h
  | xor_c => exact aluA_path h
  | xor_d => exact aluA_path h
  | xor_e => exact aluA_path h
  | xor_h => exact aluA_path h
  | xor_l => exact aluA_path h
  | xor_atHl => exact aluA_path h
  | xor_a => exact aluA_path h
  | or_b => exact aluA_path h
  | or_c => exact aluA_path h
  | or_d => exact aluA_path h
  | or_e => exact aluA_path h
  | or_h => exact aluA_path h
  | or_l => exact aluA_path h
  | or_atHl => exact aluA_path h
  | or_a => exact aluA_path h
  | cp_b => exact aluA_path h
  | cp_c => exact aluA_path h
  | cp_d => exact aluA_path h
  | cp_e => exact aluA_path h
  | cp_h => exact aluA_path h
  | cp_l => exact aluA_path h
  | cp_atHl => exact aluA_path h
  | cp_a => exact aluA_path h
  | ret_nz => exact returnIf_path h
  | pop_bc => exact popPair_path h
  | push_bc => exact pushPair_path h
  | rst_00 => exact restart_path h
  | ret_z => exact returnIf_path h
  | ret => exact finish_path h (.one rfl)
  | rst_08 => exact restart_path h
  | ret_nc => exact returnIf_path h
  | pop_de => exact popPair_path h
  | illegal_d3 => exact noOperation_path h
  | push_de => exact pushPair_path h
  | rst_10 => exact restart_path h
  | ret_c => exact returnIf_path h
  | reti => exact finish_path h (.one rfl)
  | illegal_db => exact noOperation_path h
  | illegal_dd => exact noOperation_path h
  | rst_18 => exact restart_path h
  | pop_hl => exact popPair_path h
  | ld_atC_a => exact storeA_path h
  | illegal_e3 => exact noOperation_path h
  | illegal_e4 => exact noOperation_path h
  | push_hl => exact pushPair_path h
  | rst_20 => exact restart_path h
  | jp_hl => exact finish_path h (.one rfl)
  | illegal_eb => exact noOperation_path h
  | illegal_ec => exact noOperation_path h
  | illegal_ed => exact noOperation_path h
  | rst_28 => exact restart_path h
  | pop_af => exact popPair_path h
  | ld_a_atC => exact loadA_path h
  | di => exact finish_path h (.one rfl)
  | illegal_f4 => exact noOperation_path h
  | push_af => exact pushPair_path h
  | rst_30 => exact restart_path h
  | ld_sp_hl => exact finish_path h (.one rfl)
  | ei => exact finish_path h (.one rfl)
  | illegal_fc => exact noOperation_path h
  | illegal_fd => exact noOperation_path h
  | rst_38 => exact restart_path h
  | rlc_b => exact rotateTarget_path h
  | rlc_c => exact rotateTarget_path h
  | rlc_d => exact rotateTarget_path h
  | rlc_e => exact rotateTarget_path h
  | rlc_h => exact rotateTarget_path h
  | rlc_l => exact rotateTarget_path h
  | rlc_atHl => exact rotateTarget_path h
  | rlc_a => exact rotateTarget_path h
  | rrc_b => exact rotateTarget_path h
  | rrc_c => exact rotateTarget_path h
  | rrc_d => exact rotateTarget_path h
  | rrc_e => exact rotateTarget_path h
  | rrc_h => exact rotateTarget_path h
  | rrc_l => exact rotateTarget_path h
  | rrc_atHl => exact rotateTarget_path h
  | rrc_a => exact rotateTarget_path h
  | rl_b => exact rotateTarget_path h
  | rl_c => exact rotateTarget_path h
  | rl_d => exact rotateTarget_path h
  | rl_e => exact rotateTarget_path h
  | rl_h => exact rotateTarget_path h
  | rl_l => exact rotateTarget_path h
  | rl_atHl => exact rotateTarget_path h
  | rl_a => exact rotateTarget_path h
  | rr_b => exact rotateTarget_path h
  | rr_c => exact rotateTarget_path h
  | rr_d => exact rotateTarget_path h
  | rr_e => exact rotateTarget_path h
  | rr_h => exact rotateTarget_path h
  | rr_l => exact rotateTarget_path h
  | rr_atHl => exact rotateTarget_path h
  | rr_a => exact rotateTarget_path h
  | sla_b => exact rotateTarget_path h
  | sla_c => exact rotateTarget_path h
  | sla_d => exact rotateTarget_path h
  | sla_e => exact rotateTarget_path h
  | sla_h => exact rotateTarget_path h
  | sla_l => exact rotateTarget_path h
  | sla_atHl => exact rotateTarget_path h
  | sla_a => exact rotateTarget_path h
  | sra_b => exact rotateTarget_path h
  | sra_c => exact rotateTarget_path h
  | sra_d => exact rotateTarget_path h
  | sra_e => exact rotateTarget_path h
  | sra_h => exact rotateTarget_path h
  | sra_l => exact rotateTarget_path h
  | sra_atHl => exact rotateTarget_path h
  | sra_a => exact rotateTarget_path h
  | swap_b => exact rotateTarget_path h
  | swap_c => exact rotateTarget_path h
  | swap_d => exact rotateTarget_path h
  | swap_e => exact rotateTarget_path h
  | swap_h => exact rotateTarget_path h
  | swap_l => exact rotateTarget_path h
  | swap_atHl => exact rotateTarget_path h
  | swap_a => exact rotateTarget_path h
  | srl_b => exact rotateTarget_path h
  | srl_c => exact rotateTarget_path h
  | srl_d => exact rotateTarget_path h
  | srl_e => exact rotateTarget_path h
  | srl_h => exact rotateTarget_path h
  | srl_l => exact rotateTarget_path h
  | srl_atHl => exact rotateTarget_path h
  | srl_a => exact rotateTarget_path h
  | bit_0_b => exact bitTest_path h
  | bit_0_c => exact bitTest_path h
  | bit_0_d => exact bitTest_path h
  | bit_0_e => exact bitTest_path h
  | bit_0_h => exact bitTest_path h
  | bit_0_l => exact bitTest_path h
  | bit_0_atHl => exact bitTest_path h
  | bit_0_a => exact bitTest_path h
  | bit_1_b => exact bitTest_path h
  | bit_1_c => exact bitTest_path h
  | bit_1_d => exact bitTest_path h
  | bit_1_e => exact bitTest_path h
  | bit_1_h => exact bitTest_path h
  | bit_1_l => exact bitTest_path h
  | bit_1_atHl => exact bitTest_path h
  | bit_1_a => exact bitTest_path h
  | bit_2_b => exact bitTest_path h
  | bit_2_c => exact bitTest_path h
  | bit_2_d => exact bitTest_path h
  | bit_2_e => exact bitTest_path h
  | bit_2_h => exact bitTest_path h
  | bit_2_l => exact bitTest_path h
  | bit_2_atHl => exact bitTest_path h
  | bit_2_a => exact bitTest_path h
  | bit_3_b => exact bitTest_path h
  | bit_3_c => exact bitTest_path h
  | bit_3_d => exact bitTest_path h
  | bit_3_e => exact bitTest_path h
  | bit_3_h => exact bitTest_path h
  | bit_3_l => exact bitTest_path h
  | bit_3_atHl => exact bitTest_path h
  | bit_3_a => exact bitTest_path h
  | bit_4_b => exact bitTest_path h
  | bit_4_c => exact bitTest_path h
  | bit_4_d => exact bitTest_path h
  | bit_4_e => exact bitTest_path h
  | bit_4_h => exact bitTest_path h
  | bit_4_l => exact bitTest_path h
  | bit_4_atHl => exact bitTest_path h
  | bit_4_a => exact bitTest_path h
  | bit_5_b => exact bitTest_path h
  | bit_5_c => exact bitTest_path h
  | bit_5_d => exact bitTest_path h
  | bit_5_e => exact bitTest_path h
  | bit_5_h => exact bitTest_path h
  | bit_5_l => exact bitTest_path h
  | bit_5_atHl => exact bitTest_path h
  | bit_5_a => exact bitTest_path h
  | bit_6_b => exact bitTest_path h
  | bit_6_c => exact bitTest_path h
  | bit_6_d => exact bitTest_path h
  | bit_6_e => exact bitTest_path h
  | bit_6_h => exact bitTest_path h
  | bit_6_l => exact bitTest_path h
  | bit_6_atHl => exact bitTest_path h
  | bit_6_a => exact bitTest_path h
  | bit_7_b => exact bitTest_path h
  | bit_7_c => exact bitTest_path h
  | bit_7_d => exact bitTest_path h
  | bit_7_e => exact bitTest_path h
  | bit_7_h => exact bitTest_path h
  | bit_7_l => exact bitTest_path h
  | bit_7_atHl => exact bitTest_path h
  | bit_7_a => exact bitTest_path h
  | res_0_b => exact bitReset_path h
  | res_0_c => exact bitReset_path h
  | res_0_d => exact bitReset_path h
  | res_0_e => exact bitReset_path h
  | res_0_h => exact bitReset_path h
  | res_0_l => exact bitReset_path h
  | res_0_atHl => exact bitReset_path h
  | res_0_a => exact bitReset_path h
  | res_1_b => exact bitReset_path h
  | res_1_c => exact bitReset_path h
  | res_1_d => exact bitReset_path h
  | res_1_e => exact bitReset_path h
  | res_1_h => exact bitReset_path h
  | res_1_l => exact bitReset_path h
  | res_1_atHl => exact bitReset_path h
  | res_1_a => exact bitReset_path h
  | res_2_b => exact bitReset_path h
  | res_2_c => exact bitReset_path h
  | res_2_d => exact bitReset_path h
  | res_2_e => exact bitReset_path h
  | res_2_h => exact bitReset_path h
  | res_2_l => exact bitReset_path h
  | res_2_atHl => exact bitReset_path h
  | res_2_a => exact bitReset_path h
  | res_3_b => exact bitReset_path h
  | res_3_c => exact bitReset_path h
  | res_3_d => exact bitReset_path h
  | res_3_e => exact bitReset_path h
  | res_3_h => exact bitReset_path h
  | res_3_l => exact bitReset_path h
  | res_3_atHl => exact bitReset_path h
  | res_3_a => exact bitReset_path h
  | res_4_b => exact bitReset_path h
  | res_4_c => exact bitReset_path h
  | res_4_d => exact bitReset_path h
  | res_4_e => exact bitReset_path h
  | res_4_h => exact bitReset_path h
  | res_4_l => exact bitReset_path h
  | res_4_atHl => exact bitReset_path h
  | res_4_a => exact bitReset_path h
  | res_5_b => exact bitReset_path h
  | res_5_c => exact bitReset_path h
  | res_5_d => exact bitReset_path h
  | res_5_e => exact bitReset_path h
  | res_5_h => exact bitReset_path h
  | res_5_l => exact bitReset_path h
  | res_5_atHl => exact bitReset_path h
  | res_5_a => exact bitReset_path h
  | res_6_b => exact bitReset_path h
  | res_6_c => exact bitReset_path h
  | res_6_d => exact bitReset_path h
  | res_6_e => exact bitReset_path h
  | res_6_h => exact bitReset_path h
  | res_6_l => exact bitReset_path h
  | res_6_atHl => exact bitReset_path h
  | res_6_a => exact bitReset_path h
  | res_7_b => exact bitReset_path h
  | res_7_c => exact bitReset_path h
  | res_7_d => exact bitReset_path h
  | res_7_e => exact bitReset_path h
  | res_7_h => exact bitReset_path h
  | res_7_l => exact bitReset_path h
  | res_7_atHl => exact bitReset_path h
  | res_7_a => exact bitReset_path h
  | set_0_b => exact bitSet_path h
  | set_0_c => exact bitSet_path h
  | set_0_d => exact bitSet_path h
  | set_0_e => exact bitSet_path h
  | set_0_h => exact bitSet_path h
  | set_0_l => exact bitSet_path h
  | set_0_atHl => exact bitSet_path h
  | set_0_a => exact bitSet_path h
  | set_1_b => exact bitSet_path h
  | set_1_c => exact bitSet_path h
  | set_1_d => exact bitSet_path h
  | set_1_e => exact bitSet_path h
  | set_1_h => exact bitSet_path h
  | set_1_l => exact bitSet_path h
  | set_1_atHl => exact bitSet_path h
  | set_1_a => exact bitSet_path h
  | set_2_b => exact bitSet_path h
  | set_2_c => exact bitSet_path h
  | set_2_d => exact bitSet_path h
  | set_2_e => exact bitSet_path h
  | set_2_h => exact bitSet_path h
  | set_2_l => exact bitSet_path h
  | set_2_atHl => exact bitSet_path h
  | set_2_a => exact bitSet_path h
  | set_3_b => exact bitSet_path h
  | set_3_c => exact bitSet_path h
  | set_3_d => exact bitSet_path h
  | set_3_e => exact bitSet_path h
  | set_3_h => exact bitSet_path h
  | set_3_l => exact bitSet_path h
  | set_3_atHl => exact bitSet_path h
  | set_3_a => exact bitSet_path h
  | set_4_b => exact bitSet_path h
  | set_4_c => exact bitSet_path h
  | set_4_d => exact bitSet_path h
  | set_4_e => exact bitSet_path h
  | set_4_h => exact bitSet_path h
  | set_4_l => exact bitSet_path h
  | set_4_atHl => exact bitSet_path h
  | set_4_a => exact bitSet_path h
  | set_5_b => exact bitSet_path h
  | set_5_c => exact bitSet_path h
  | set_5_d => exact bitSet_path h
  | set_5_e => exact bitSet_path h
  | set_5_h => exact bitSet_path h
  | set_5_l => exact bitSet_path h
  | set_5_atHl => exact bitSet_path h
  | set_5_a => exact bitSet_path h
  | set_6_b => exact bitSet_path h
  | set_6_c => exact bitSet_path h
  | set_6_d => exact bitSet_path h
  | set_6_e => exact bitSet_path h
  | set_6_h => exact bitSet_path h
  | set_6_l => exact bitSet_path h
  | set_6_atHl => exact bitSet_path h
  | set_6_a => exact bitSet_path h
  | set_7_b => exact bitSet_path h
  | set_7_c => exact bitSet_path h
  | set_7_d => exact bitSet_path h
  | set_7_e => exact bitSet_path h
  | set_7_h => exact bitSet_path h
  | set_7_l => exact bitSet_path h
  | set_7_atHl => exact bitSet_path h
  | set_7_a => exact bitSet_path h

end

end Sys2Proof.Machine
end

