-- ==== Sys2Proof/Tests/Slice0.lean ====
section
/-! SUPPORT. The model's own tests: what WellFormed refuses, every constructor's decoding by a word of the opcode maps
(30_encoding.md R140, R141), single steps from the vectors of 95_test_vectors.md, and a witness for the hypotheses of
each statement that has some. -/

open Sys2Proof Sys2Proof.Machine

/-! ### WellFormed: its one check, and a neighbour it lets through (30_encoding.md R147) -/

theorem test_wellFormed_refuses_prefix : (Instr.prefix_cb 0x37).wellFormed = false := by decide
theorem test_wellFormed_admits_swap_a : Instr.swap_a.wellFormed = true := by decide

/-! ### Decoding: each row of the maps, operand bytes n = 0x8A and nn = 0x129A after the opcode -/

theorem test_decode_0x :
    [[0x00], [0x01, 0x9A, 0x12], [0x02], [0x03], [0x04], [0x05], [0x06, 0x8A], [0x07], [0x08, 0x9A, 0x12],
     [0x09], [0x0A], [0x0B], [0x0C], [0x0D], [0x0E, 0x8A], [0x0F]].map decode =
    [.nop, .ld_bc_nn 0x129A, .ld_atBc_a, .inc_bc, .inc_b, .dec_b, .ld_b_n 0x8A, .rlca, .ld_atNn_sp 0x129A,
     .add_hl_bc, .ld_a_atBc, .dec_bc, .inc_c, .dec_c, .ld_c_n 0x8A, .rrca].map
      (fun i => Except.ok (i, [])) := by decide

theorem test_decode_1x :
    [[0x10, 0x8A], [0x11, 0x9A, 0x12], [0x12], [0x13], [0x14], [0x15], [0x16, 0x8A], [0x17], [0x18, 0x8A],
     [0x19], [0x1A], [0x1B], [0x1C], [0x1D], [0x1E, 0x8A], [0x1F]].map decode =
    [.stop 0x8A, .ld_de_nn 0x129A, .ld_atDe_a, .inc_de, .inc_d, .dec_d, .ld_d_n 0x8A, .rla, .jr_e 0x8A,
     .add_hl_de, .ld_a_atDe, .dec_de, .inc_e, .dec_e, .ld_e_n 0x8A, .rra].map
      (fun i => Except.ok (i, [])) := by decide

theorem test_decode_2x :
    [[0x20, 0x8A], [0x21, 0x9A, 0x12], [0x22], [0x23], [0x24], [0x25], [0x26, 0x8A], [0x27], [0x28, 0x8A],
     [0x29], [0x2A], [0x2B], [0x2C], [0x2D], [0x2E, 0x8A], [0x2F]].map decode =
    [.jr_nz_e 0x8A, .ld_hl_nn 0x129A, .ld_atHlInc_a, .inc_hl, .inc_h, .dec_h, .ld_h_n 0x8A, .daa, .jr_z_e 0x8A,
     .add_hl_hl, .ld_a_atHlInc, .dec_hl, .inc_l, .dec_l, .ld_l_n 0x8A, .cpl].map
      (fun i => Except.ok (i, [])) := by decide

theorem test_decode_3x :
    [[0x30, 0x8A], [0x31, 0x9A, 0x12], [0x32], [0x33], [0x34], [0x35], [0x36, 0x8A], [0x37], [0x38, 0x8A],
     [0x39], [0x3A], [0x3B], [0x3C], [0x3D], [0x3E, 0x8A], [0x3F]].map decode =
    [.jr_nc_e 0x8A, .ld_sp_nn 0x129A, .ld_atHlDec_a, .inc_sp, .inc_atHl, .dec_atHl, .ld_atHl_n 0x8A, .scf,
     .jr_c_e 0x8A, .add_hl_sp, .ld_a_atHlDec, .dec_sp, .inc_a, .dec_a, .ld_a_n 0x8A, .ccf].map
      (fun i => Except.ok (i, [])) := by decide

theorem test_decode_4x :
    [[0x40], [0x41], [0x42], [0x43], [0x44], [0x45], [0x46], [0x47], [0x48], [0x49], [0x4A], [0x4B], [0x4C],
     [0x4D], [0x4E], [0x4F]].map decode =
    [.ld_b_b, .ld_b_c, .ld_b_d, .ld_b_e, .ld_b_h, .ld_b_l, .ld_b_atHl, .ld_b_a, .ld_c_b, .ld_c_c, .ld_c_d,
     .ld_c_e, .ld_c_h, .ld_c_l, .ld_c_atHl, .ld_c_a].map
      (fun i => Except.ok (i, [])) := by decide

theorem test_decode_5x :
    [[0x50], [0x51], [0x52], [0x53], [0x54], [0x55], [0x56], [0x57], [0x58], [0x59], [0x5A], [0x5B], [0x5C],
     [0x5D], [0x5E], [0x5F]].map decode =
    [.ld_d_b, .ld_d_c, .ld_d_d, .ld_d_e, .ld_d_h, .ld_d_l, .ld_d_atHl, .ld_d_a, .ld_e_b, .ld_e_c, .ld_e_d,
     .ld_e_e, .ld_e_h, .ld_e_l, .ld_e_atHl, .ld_e_a].map
      (fun i => Except.ok (i, [])) := by decide

theorem test_decode_6x :
    [[0x60], [0x61], [0x62], [0x63], [0x64], [0x65], [0x66], [0x67], [0x68], [0x69], [0x6A], [0x6B], [0x6C],
     [0x6D], [0x6E], [0x6F]].map decode =
    [.ld_h_b, .ld_h_c, .ld_h_d, .ld_h_e, .ld_h_h, .ld_h_l, .ld_h_atHl, .ld_h_a, .ld_l_b, .ld_l_c, .ld_l_d,
     .ld_l_e, .ld_l_h, .ld_l_l, .ld_l_atHl, .ld_l_a].map
      (fun i => Except.ok (i, [])) := by decide

theorem test_decode_7x :
    [[0x70], [0x71], [0x72], [0x73], [0x74], [0x75], [0x76], [0x77], [0x78], [0x79], [0x7A], [0x7B], [0x7C],
     [0x7D], [0x7E], [0x7F]].map decode =
    [.ld_atHl_b, .ld_atHl_c, .ld_atHl_d, .ld_atHl_e, .ld_atHl_h, .ld_atHl_l, .halt, .ld_atHl_a, .ld_a_b,
     .ld_a_c, .ld_a_d, .ld_a_e, .ld_a_h, .ld_a_l, .ld_a_atHl, .ld_a_a].map
      (fun i => Except.ok (i, [])) := by decide

theorem test_decode_8x :
    [[0x80], [0x81], [0x82], [0x83], [0x84], [0x85], [0x86], [0x87], [0x88], [0x89], [0x8A], [0x8B], [0x8C],
     [0x8D], [0x8E], [0x8F]].map decode =
    [.add_a_b, .add_a_c, .add_a_d, .add_a_e, .add_a_h, .add_a_l, .add_a_atHl, .add_a_a, .adc_a_b, .adc_a_c,
     .adc_a_d, .adc_a_e, .adc_a_h, .adc_a_l, .adc_a_atHl, .adc_a_a].map
      (fun i => Except.ok (i, [])) := by decide

theorem test_decode_9x :
    [[0x90], [0x91], [0x92], [0x93], [0x94], [0x95], [0x96], [0x97], [0x98], [0x99], [0x9A], [0x9B], [0x9C],
     [0x9D], [0x9E], [0x9F]].map decode =
    [.sub_b, .sub_c, .sub_d, .sub_e, .sub_h, .sub_l, .sub_atHl, .sub_a, .sbc_a_b, .sbc_a_c, .sbc_a_d, .sbc_a_e,
     .sbc_a_h, .sbc_a_l, .sbc_a_atHl, .sbc_a_a].map
      (fun i => Except.ok (i, [])) := by decide

theorem test_decode_Ax :
    [[0xA0], [0xA1], [0xA2], [0xA3], [0xA4], [0xA5], [0xA6], [0xA7], [0xA8], [0xA9], [0xAA], [0xAB], [0xAC],
     [0xAD], [0xAE], [0xAF]].map decode =
    [.and_b, .and_c, .and_d, .and_e, .and_h, .and_l, .and_atHl, .and_a, .xor_b, .xor_c, .xor_d, .xor_e, .xor_h,
     .xor_l, .xor_atHl, .xor_a].map
      (fun i => Except.ok (i, [])) := by decide

theorem test_decode_Bx :
    [[0xB0], [0xB1], [0xB2], [0xB3], [0xB4], [0xB5], [0xB6], [0xB7], [0xB8], [0xB9], [0xBA], [0xBB], [0xBC],
     [0xBD], [0xBE], [0xBF]].map decode =
    [.or_b, .or_c, .or_d, .or_e, .or_h, .or_l, .or_atHl, .or_a, .cp_b, .cp_c, .cp_d, .cp_e, .cp_h, .cp_l,
     .cp_atHl, .cp_a].map
      (fun i => Except.ok (i, [])) := by decide

theorem test_decode_Cx :
    [[0xC0], [0xC1], [0xC2, 0x9A, 0x12], [0xC3, 0x9A, 0x12], [0xC4, 0x9A, 0x12], [0xC5], [0xC6, 0x8A], [0xC7],
     [0xC8], [0xC9], [0xCA, 0x9A, 0x12], [0xCB, 0x8A], [0xCC, 0x9A, 0x12], [0xCD, 0x9A, 0x12], [0xCE, 0x8A],
     [0xCF]].map decode =
    [.ret_nz, .pop_bc, .jp_nz_nn 0x129A, .jp_nn 0x129A, .call_nz_nn 0x129A, .push_bc, .add_a_n 0x8A, .rst_00,
     .ret_z, .ret, .jp_z_nn 0x129A, .res_1_d, .call_z_nn 0x129A, .call_nn 0x129A, .adc_a_n 0x8A, .rst_08].map
      (fun i => Except.ok (i, [])) := by decide

theorem test_decode_Dx :
    [[0xD0], [0xD1], [0xD2, 0x9A, 0x12], [0xD3], [0xD4, 0x9A, 0x12], [0xD5], [0xD6, 0x8A], [0xD7], [0xD8],
     [0xD9], [0xDA, 0x9A, 0x12], [0xDB], [0xDC, 0x9A, 0x12], [0xDD], [0xDE, 0x8A], [0xDF]].map decode =
    [.ret_nc, .pop_de, .jp_nc_nn 0x129A, .illegal_d3, .call_nc_nn 0x129A, .push_de, .sub_n 0x8A, .rst_10,
     .ret_c, .reti, .jp_c_nn 0x129A, .illegal_db, .call_c_nn 0x129A, .illegal_dd, .sbc_a_n 0x8A, .rst_18].map
      (fun i => Except.ok (i, [])) := by decide

theorem test_decode_Ex :
    [[0xE0, 0x8A], [0xE1], [0xE2], [0xE3], [0xE4], [0xE5], [0xE6, 0x8A], [0xE7], [0xE8, 0x8A], [0xE9],
     [0xEA, 0x9A, 0x12], [0xEB], [0xEC], [0xED], [0xEE, 0x8A], [0xEF]].map decode =
    [.ldh_atN_a 0x8A, .pop_hl, .ld_atC_a, .illegal_e3, .illegal_e4, .push_hl, .and_n 0x8A, .rst_20,
     .add_sp_e 0x8A, .jp_hl, .ld_atNn_a 0x129A, .illegal_eb, .illegal_ec, .illegal_ed, .xor_n 0x8A, .rst_28].map
      (fun i => Except.ok (i, [])) := by decide

theorem test_decode_Fx :
    [[0xF0, 0x8A], [0xF1], [0xF2], [0xF3], [0xF4], [0xF5], [0xF6, 0x8A], [0xF7], [0xF8, 0x8A], [0xF9],
     [0xFA, 0x9A, 0x12], [0xFB], [0xFC], [0xFD], [0xFE, 0x8A], [0xFF]].map decode =
    [.ldh_a_atN 0x8A, .pop_af, .ld_a_atC, .di, .illegal_f4, .push_af, .or_n 0x8A, .rst_30, .ld_hl_spE 0x8A,
     .ld_sp_hl, .ld_a_atNn 0x129A, .ei, .illegal_fc, .illegal_fd, .cp_n 0x8A, .rst_38].map
      (fun i => Except.ok (i, [])) := by decide

theorem test_decode_cb_0x : (List.range 16).map (fun k => decode [0xCB, BitVec.ofNat 8 (0x00 + k)]) =
    [.rlc_b, .rlc_c, .rlc_d, .rlc_e, .rlc_h, .rlc_l, .rlc_atHl, .rlc_a, .rrc_b, .rrc_c, .rrc_d, .rrc_e, .rrc_h,
     .rrc_l, .rrc_atHl, .rrc_a].map
      (fun i => Except.ok (i, [])) := by decide

theorem test_decode_cb_1x : (List.range 16).map (fun k => decode [0xCB, BitVec.ofNat 8 (0x10 + k)]) =
    [.rl_b, .rl_c, .rl_d, .rl_e, .rl_h, .rl_l, .rl_atHl, .rl_a, .rr_b, .rr_c, .rr_d, .rr_e, .rr_h, .rr_l,
     .rr_atHl, .rr_a].map
      (fun i => Except.ok (i, [])) := by decide

theorem test_decode_cb_2x : (List.range 16).map (fun k => decode [0xCB, BitVec.ofNat 8 (0x20 + k)]) =
    [.sla_b, .sla_c, .sla_d, .sla_e, .sla_h, .sla_l, .sla_atHl, .sla_a, .sra_b, .sra_c, .sra_d, .sra_e, .sra_h,
     .sra_l, .sra_atHl, .sra_a].map
      (fun i => Except.ok (i, [])) := by decide

theorem test_decode_cb_3x : (List.range 16).map (fun k => decode [0xCB, BitVec.ofNat 8 (0x30 + k)]) =
    [.swap_b, .swap_c, .swap_d, .swap_e, .swap_h, .swap_l, .swap_atHl, .swap_a, .srl_b, .srl_c, .srl_d, .srl_e,
     .srl_h, .srl_l, .srl_atHl, .srl_a].map
      (fun i => Except.ok (i, [])) := by decide

theorem test_decode_cb_4x : (List.range 16).map (fun k => decode [0xCB, BitVec.ofNat 8 (0x40 + k)]) =
    [.bit_0_b, .bit_0_c, .bit_0_d, .bit_0_e, .bit_0_h, .bit_0_l, .bit_0_atHl, .bit_0_a, .bit_1_b, .bit_1_c,
     .bit_1_d, .bit_1_e, .bit_1_h, .bit_1_l, .bit_1_atHl, .bit_1_a].map
      (fun i => Except.ok (i, [])) := by decide

theorem test_decode_cb_5x : (List.range 16).map (fun k => decode [0xCB, BitVec.ofNat 8 (0x50 + k)]) =
    [.bit_2_b, .bit_2_c, .bit_2_d, .bit_2_e, .bit_2_h, .bit_2_l, .bit_2_atHl, .bit_2_a, .bit_3_b, .bit_3_c,
     .bit_3_d, .bit_3_e, .bit_3_h, .bit_3_l, .bit_3_atHl, .bit_3_a].map
      (fun i => Except.ok (i, [])) := by decide

theorem test_decode_cb_6x : (List.range 16).map (fun k => decode [0xCB, BitVec.ofNat 8 (0x60 + k)]) =
    [.bit_4_b, .bit_4_c, .bit_4_d, .bit_4_e, .bit_4_h, .bit_4_l, .bit_4_atHl, .bit_4_a, .bit_5_b, .bit_5_c,
     .bit_5_d, .bit_5_e, .bit_5_h, .bit_5_l, .bit_5_atHl, .bit_5_a].map
      (fun i => Except.ok (i, [])) := by decide

theorem test_decode_cb_7x : (List.range 16).map (fun k => decode [0xCB, BitVec.ofNat 8 (0x70 + k)]) =
    [.bit_6_b, .bit_6_c, .bit_6_d, .bit_6_e, .bit_6_h, .bit_6_l, .bit_6_atHl, .bit_6_a, .bit_7_b, .bit_7_c,
     .bit_7_d, .bit_7_e, .bit_7_h, .bit_7_l, .bit_7_atHl, .bit_7_a].map
      (fun i => Except.ok (i, [])) := by decide

theorem test_decode_cb_8x : (List.range 16).map (fun k => decode [0xCB, BitVec.ofNat 8 (0x80 + k)]) =
    [.res_0_b, .res_0_c, .res_0_d, .res_0_e, .res_0_h, .res_0_l, .res_0_atHl, .res_0_a, .res_1_b, .res_1_c,
     .res_1_d, .res_1_e, .res_1_h, .res_1_l, .res_1_atHl, .res_1_a].map
      (fun i => Except.ok (i, [])) := by decide

theorem test_decode_cb_9x : (List.range 16).map (fun k => decode [0xCB, BitVec.ofNat 8 (0x90 + k)]) =
    [.res_2_b, .res_2_c, .res_2_d, .res_2_e, .res_2_h, .res_2_l, .res_2_atHl, .res_2_a, .res_3_b, .res_3_c,
     .res_3_d, .res_3_e, .res_3_h, .res_3_l, .res_3_atHl, .res_3_a].map
      (fun i => Except.ok (i, [])) := by decide

theorem test_decode_cb_Ax : (List.range 16).map (fun k => decode [0xCB, BitVec.ofNat 8 (0xA0 + k)]) =
    [.res_4_b, .res_4_c, .res_4_d, .res_4_e, .res_4_h, .res_4_l, .res_4_atHl, .res_4_a, .res_5_b, .res_5_c,
     .res_5_d, .res_5_e, .res_5_h, .res_5_l, .res_5_atHl, .res_5_a].map
      (fun i => Except.ok (i, [])) := by decide

theorem test_decode_cb_Bx : (List.range 16).map (fun k => decode [0xCB, BitVec.ofNat 8 (0xB0 + k)]) =
    [.res_6_b, .res_6_c, .res_6_d, .res_6_e, .res_6_h, .res_6_l, .res_6_atHl, .res_6_a, .res_7_b, .res_7_c,
     .res_7_d, .res_7_e, .res_7_h, .res_7_l, .res_7_atHl, .res_7_a].map
      (fun i => Except.ok (i, [])) := by decide

theorem test_decode_cb_Cx : (List.range 16).map (fun k => decode [0xCB, BitVec.ofNat 8 (0xC0 + k)]) =
    [.set_0_b, .set_0_c, .set_0_d, .set_0_e, .set_0_h, .set_0_l, .set_0_atHl, .set_0_a, .set_1_b, .set_1_c,
     .set_1_d, .set_1_e, .set_1_h, .set_1_l, .set_1_atHl, .set_1_a].map
      (fun i => Except.ok (i, [])) := by decide

theorem test_decode_cb_Dx : (List.range 16).map (fun k => decode [0xCB, BitVec.ofNat 8 (0xD0 + k)]) =
    [.set_2_b, .set_2_c, .set_2_d, .set_2_e, .set_2_h, .set_2_l, .set_2_atHl, .set_2_a, .set_3_b, .set_3_c,
     .set_3_d, .set_3_e, .set_3_h, .set_3_l, .set_3_atHl, .set_3_a].map
      (fun i => Except.ok (i, [])) := by decide

theorem test_decode_cb_Ex : (List.range 16).map (fun k => decode [0xCB, BitVec.ofNat 8 (0xE0 + k)]) =
    [.set_4_b, .set_4_c, .set_4_d, .set_4_e, .set_4_h, .set_4_l, .set_4_atHl, .set_4_a, .set_5_b, .set_5_c,
     .set_5_d, .set_5_e, .set_5_h, .set_5_l, .set_5_atHl, .set_5_a].map
      (fun i => Except.ok (i, [])) := by decide

theorem test_decode_cb_Fx : (List.range 16).map (fun k => decode [0xCB, BitVec.ofNat 8 (0xF0 + k)]) =
    [.set_6_b, .set_6_c, .set_6_d, .set_6_e, .set_6_h, .set_6_l, .set_6_atHl, .set_6_a, .set_7_b, .set_7_c,
     .set_7_d, .set_7_e, .set_7_h, .set_7_l, .set_7_atHl, .set_7_a].map
      (fun i => Except.ok (i, [])) := by decide

/-- The table's row of the prefix gives its 8 bits; the operand byte is then 0, which is RLC B. -/
theorem test_table_prefix : decodeTableWord 8 0xCB = some .rlc_b := by decide

/-- A CB row's 16 bits: the prefix in the low byte, the second byte above it. -/
theorem test_table_bit_7_h : decodeTableWord 16 0x7CCB = some .bit_7_h := by decide

/-- An operand the table gives no bits reads as 0. -/
theorem test_table_jp : decodeTableWord 8 0xC3 = some (.jp_nn 0) := by decide

theorem test_decode_truncated : decode [0xC3, 0x00] = .error (.truncated 0xC3) := by decide

/-! ### One step from the state after reset, changed as said (95_test_vectors.md section 2) -/

/-- The state after reset (70_reset_and_hazards.md R610 to R615). -/
abbrev rst : State := State.reset

/-- What a step of `s` with the three bytes at PC shows of the state it answers. -/
def shows (s : State) (b0 b1 b2 : Byte) (f : State → List Nat) : List Nat :=
  match step (s.plant b0 b1 b2) with
  | .next t => f t
  | .fault _ => []
  | .refused _ => []

/-- R200. -/
theorem test_ld_b_c : shows { rst with regs := { rst.regs with b := 0x00, c := 0x5A } } 0x41 0x00 0x00
    (fun t => [t.regs.b.toNat, t.regs.c.toNat, t.flags.toByte.toNat, t.pc.toNat, t.tcycles]) = [0x5A, 0x5A, 0xB0, 0x0101, 4] := by decide

/-- R200. -/
theorem test_ld_a_a : shows { rst with regs := { rst.regs with a := 0x3C }, flags := Flags.ofByte 0x50 } 0x7F 0x00 0x00
    (fun t => [t.regs.a.toNat, t.flags.toByte.toNat, t.tcycles]) = [0x3C, 0x50, 4] := by decide

/-- R201. -/
theorem test_ld_d_n : shows rst 0x16 0x9C 0x00
    (fun t => [t.regs.d.toNat, t.pc.toNat, t.tcycles]) = [0x9C, 0x0102, 8] := by decide

/-- R202. -/
theorem test_ld_a_atHl : shows { rst with regs := { rst.regs with h := 0xC0, l := 0x10 }, ram := ⟨[(0xC010, 0x77)]⟩ } 0x7E 0x00 0x00
    (fun t => [t.regs.a.toNat, t.tcycles]) = [0x77, 8] := by decide

/-- R203. -/
theorem test_ld_atHl_b : shows { rst with regs := { rst.regs with h := 0xC0, l := 0x20, b := 0x12 } } 0x70 0x00 0x00
    (fun t => [(t.memRead 0xC020).toNat, t.tcycles]) = [0x12, 8] := by decide

/-- R204. -/
theorem test_ld_atHl_n : shows { rst with regs := { rst.regs with h := 0xFF, l := 0x80 } } 0x36 0xA5 0x00
    (fun t => [t.pc.toNat, (t.memRead 0xFF80).toNat, t.tcycles]) = [0x0102, 0xA5, 12] := by decide

/-- R205. -/
theorem test_ld_a_atBc : shows { rst with regs := { rst.regs with b := 0xC0, c := 0x00 }, ram := ⟨[(0xC000, 0x42)]⟩ } 0x0A 0x00 0x00
    (fun t => [t.regs.a.toNat, t.tcycles]) = [0x42, 8] := by decide

/-- R208. -/
theorem test_ld_atDe_a : shows { rst with regs := { rst.regs with d := 0xE0, e := 0x05, a := 0x99 } } 0x12 0x00 0x00
    (fun t => [(t.memRead 0xC005).toNat, t.tcycles]) = [0x99, 8] := by decide

/-- R209. -/
theorem test_ld_a_atNn : shows { rst with ram := ⟨[(0xC134, 0x5E)]⟩ } 0xFA 0x34 0xC1
    (fun t => [t.regs.a.toNat, t.pc.toNat, t.tcycles]) = [0x5E, 0x0103, 16] := by decide

/-- R210. -/
theorem test_ld_atNn_a : shows { rst with regs := { rst.regs with a := 0x1F } } 0xEA 0xFF 0xFF
    (fun t => [t.ie.toNat, t.tcycles]) = [0x1F, 16] := by decide

/-- R211. -/
theorem test_ldh_a_atN : shows rst 0xF0 0x0F 0x00
    (fun t => [t.regs.a.toNat, t.tcycles]) = [0xE0, 12] := by decide

/-- R212. -/
theorem test_ldh_atN_a : shows { rst with regs := { rst.regs with a := 0x66 } } 0xE0 0x85 0x00
    (fun t => [(t.memRead 0xFF85).toNat, t.tcycles]) = [0x66, 12] := by decide

/-- R213. -/
theorem test_ld_a_atC : shows { rst with regs := { rst.regs with c := 0x04 } } 0xF2 0x00 0x00
    (fun t => [t.regs.a.toNat, t.tcycles]) = [0xAB, 8] := by decide

/-- R214. -/
theorem test_ld_atC_a : shows { rst with regs := { rst.regs with c := 0x80, a := 0xAB } } 0xE2 0x00 0x00
    (fun t => [(t.memRead 0xFF80).toNat, t.tcycles]) = [0xAB, 8] := by decide

/-- R215. -/
theorem test_ld_atHlInc_a : shows { rst with regs := { rst.regs with h := 0xC0, l := 0xFF, a := 0x01 } } 0x22 0x00 0x00
    (fun t => [t.regs.h.toNat, t.regs.l.toNat, (t.memRead 0xC0FF).toNat, t.tcycles]) = [0xC1, 0x00, 0x01, 8] := by decide

/-- R216. -/
theorem test_ld_a_atHlInc : shows { rst with regs := { rst.regs with h := 0xDF, l := 0xFF }, ram := ⟨[(0xDFFF, 0x31)]⟩ } 0x2A 0x00 0x00
    (fun t => [t.regs.a.toNat, t.regs.h.toNat, t.regs.l.toNat, t.tcycles]) = [0x31, 0xE0, 0x00, 8] := by decide

/-- R217. -/
theorem test_ld_atHlDec_a : shows { rst with regs := { rst.regs with h := 0xC0, l := 0x00, a := 0x07 } } 0x32 0x00 0x00
    (fun t => [t.regs.h.toNat, t.regs.l.toNat, (t.memRead 0xC000).toNat, t.tcycles]) = [0xBF, 0xFF, 0x07, 8] := by decide

/-- R218. -/
theorem test_ld_a_atHlDec : shows { rst with regs := { rst.regs with h := 0xC0, l := 0x01 }, ram := ⟨[(0xC001, 0x80)]⟩ } 0x3A 0x00 0x00
    (fun t => [t.regs.a.toNat, t.regs.h.toNat, t.regs.l.toNat, t.tcycles]) = [0x80, 0xC0, 0x00, 8] := by decide

/-- R230. -/
theorem test_ld_hl_nn : shows rst 0x21 0x34 0x12
    (fun t => [t.regs.h.toNat, t.regs.l.toNat, t.pc.toNat, t.tcycles]) = [0x12, 0x34, 0x0103, 12] := by decide

/-- R230. -/
theorem test_ld_sp_nn : shows rst 0x31 0x00 0xD0
    (fun t => [t.sp.toNat, t.tcycles]) = [0xD000, 12] := by decide

/-- R231. -/
theorem test_ld_atNn_sp : shows { rst with sp := 0xFFF8 } 0x08 0x00 0xC0
    (fun t => [(t.memRead 0xC000).toNat, (t.memRead 0xC001).toNat, t.tcycles]) = [0xF8, 0xFF, 20] := by decide

/-- R232. -/
theorem test_ld_hl_spE : shows { rst with sp := 0xFFF8 } 0xF8 0x02 0x00
    (fun t => [t.regs.h.toNat, t.regs.l.toNat, t.flags.toByte.toNat, t.sp.toNat, t.tcycles]) = [0xFF, 0xFA, 0x00, 0xFFF8, 12] := by decide

/-- R232. -/
theorem test_ld_hl_spE_again : shows { rst with sp := 0x0001 } 0xF8 0xFF 0x00
    (fun t => [t.regs.h.toNat, t.regs.l.toNat, t.flags.toByte.toNat, t.tcycles]) = [0x00, 0x00, 0x30, 12] := by decide

/-- R233. -/
theorem test_ld_sp_hl : shows { rst with regs := { rst.regs with h := 0xC1, l := 0x00 } } 0xF9 0x00 0x00
    (fun t => [t.sp.toNat, t.tcycles]) = [0xC100, 8] := by decide

/-- R234. -/
theorem test_push_bc : shows { rst with regs := { rst.regs with b := 0xBE, c := 0xEF }, sp := 0xFFFE } 0xC5 0x00 0x00
    (fun t => [t.sp.toNat, (t.memRead 0xFFFD).toNat, (t.memRead 0xFFFC).toNat, t.tcycles]) = [0xFFFC, 0xBE, 0xEF, 16] := by decide

/-- R234. -/
theorem test_push_af : shows { rst with regs := { rst.regs with a := 0x12 }, flags := Flags.ofByte 0xF0, sp := 0xD000 } 0xF5 0x00 0x00
    (fun t => [t.sp.toNat, (t.memRead 0xCFFF).toNat, (t.memRead 0xCFFE).toNat, t.tcycles]) = [0xCFFE, 0x12, 0xF0, 16] := by decide

/-- R235. -/
theorem test_pop_de : shows { rst with sp := 0xFFF0, ram := ⟨[(0xFFF0, 0x3C), (0xFFF1, 0x5A)]⟩ } 0xD1 0x00 0x00
    (fun t => [t.regs.d.toNat, t.regs.e.toNat, t.sp.toNat, t.tcycles]) = [0x5A, 0x3C, 0xFFF2, 12] := by decide

/-- R237. -/
theorem test_pop_af : shows { rst with sp := 0xFFF0, ram := ⟨[(0xFFF0, 0xFF), (0xFFF1, 0x12)]⟩ } 0xF1 0x00 0x00
    (fun t => [t.regs.a.toNat, t.flags.toByte.toNat, t.sp.toNat, t.tcycles]) = [0x12, 0xF0, 0xFFF2, 12] := by decide

/-- R251. -/
theorem test_add_a_b : shows { rst with regs := { rst.regs with a := 0x3A, b := 0xC6 } } 0x80 0x00 0x00
    (fun t => [t.regs.a.toNat, t.flags.toByte.toNat, t.tcycles]) = [0x00, 0xB0, 4] := by decide

/-- R251. -/
theorem test_add_a_a : shows { rst with regs := { rst.regs with a := 0x80 } } 0x87 0x00 0x00
    (fun t => [t.regs.a.toNat, t.flags.toByte.toNat, t.tcycles]) = [0x00, 0x90, 4] := by decide

/-- R252. -/
theorem test_adc_a_c : shows { rst with regs := { rst.regs with a := 0xFF, c := 0x00 }, flags := Flags.ofByte 0x10 } 0x89 0x00 0x00
    (fun t => [t.regs.a.toNat, t.flags.toByte.toNat, t.tcycles]) = [0x00, 0xB0, 4] := by decide

/-- R252. -/
theorem test_adc_a_n : shows { rst with regs := { rst.regs with a := 0xE1 }, flags := Flags.ofByte 0x10 } 0xCE 0x0F 0x00
    (fun t => [t.regs.a.toNat, t.flags.toByte.toNat, t.tcycles]) = [0xF1, 0x20, 8] := by decide

/-- R253. -/
theorem test_sub_b : shows { rst with regs := { rst.regs with a := 0x00, b := 0x01 } } 0x90 0x00 0x00
    (fun t => [t.regs.a.toNat, t.flags.toByte.toNat, t.tcycles]) = [0xFF, 0x70, 4] := by decide

/-- R253. -/
theorem test_sub_a : shows { rst with regs := { rst.regs with a := 0x5A } } 0x97 0x00 0x00
    (fun t => [t.regs.a.toNat, t.flags.toByte.toNat, t.tcycles]) = [0x00, 0xC0, 4] := by decide

/-- R254. -/
theorem test_sbc_a_h : shows { rst with regs := { rst.regs with a := 0x3B, h := 0x2A }, flags := Flags.ofByte 0x10 } 0x9C 0x00 0x00
    (fun t => [t.regs.a.toNat, t.flags.toByte.toNat, t.tcycles]) = [0x10, 0x40, 4] := by decide

/-- R254. -/
theorem test_sbc_a_n : shows { rst with regs := { rst.regs with a := 0x00 }, flags := Flags.ofByte 0x10 } 0xDE 0xFF 0x00
    (fun t => [t.regs.a.toNat, t.flags.toByte.toNat, t.tcycles]) = [0x00, 0xF0, 8] := by decide

/-- R255. -/
theorem test_and_n : shows { rst with regs := { rst.regs with a := 0x5A } } 0xE6 0x3F 0x00
    (fun t => [t.regs.a.toNat, t.flags.toByte.toNat, t.tcycles]) = [0x1A, 0x20, 8] := by decide

/-- R255. -/
theorem test_and_b : shows { rst with regs := { rst.regs with a := 0xF0, b := 0x0F } } 0xA0 0x00 0x00
    (fun t => [t.regs.a.toNat, t.flags.toByte.toNat, t.tcycles]) = [0x00, 0xA0, 4] := by decide

/-- R256. -/
theorem test_xor_a : shows { rst with regs := { rst.regs with a := 0x77 } } 0xAF 0x00 0x00
    (fun t => [t.regs.a.toNat, t.flags.toByte.toNat, t.tcycles]) = [0x00, 0x80, 4] := by decide

/-- R256. -/
theorem test_xor_n : shows { rst with regs := { rst.regs with a := 0xFF } } 0xEE 0x0F 0x00
    (fun t => [t.regs.a.toNat, t.flags.toByte.toNat, t.tcycles]) = [0xF0, 0x00, 8] := by decide

/-- R257. -/
theorem test_or_a : shows { rst with regs := { rst.regs with a := 0x00 }, flags := Flags.ofByte 0xF0 } 0xB7 0x00 0x00
    (fun t => [t.regs.a.toNat, t.flags.toByte.toNat, t.tcycles]) = [0x00, 0x80, 4] := by decide

/-- R257. -/
theorem test_or_n : shows { rst with regs := { rst.regs with a := 0x5A } } 0xF6 0x0F 0x00
    (fun t => [t.regs.a.toNat, t.flags.toByte.toNat, t.tcycles]) = [0x5F, 0x00, 8] := by decide

/-- R258. -/
theorem test_cp_n : shows { rst with regs := { rst.regs with a := 0x3C } } 0xFE 0x2F 0x00
    (fun t => [t.regs.a.toNat, t.flags.toByte.toNat, t.tcycles]) = [0x3C, 0x60, 8] := by decide

/-- R258. -/
theorem test_cp_a : shows { rst with regs := { rst.regs with a := 0x11 } } 0xBF 0x00 0x00
    (fun t => [t.regs.a.toNat, t.flags.toByte.toNat, t.tcycles]) = [0x11, 0xC0, 4] := by decide

/-- R259. -/
theorem test_inc_b : shows { rst with regs := { rst.regs with b := 0xFF }, flags := Flags.ofByte 0x00 } 0x04 0x00 0x00
    (fun t => [t.regs.b.toNat, t.flags.toByte.toNat, t.tcycles]) = [0x00, 0xA0, 4] := by decide

/-- R259. -/
theorem test_inc_a : shows { rst with regs := { rst.regs with a := 0x0F }, flags := Flags.ofByte 0x10 } 0x3C 0x00 0x00
    (fun t => [t.regs.a.toNat, t.flags.toByte.toNat, t.tcycles]) = [0x10, 0x30, 4] := by decide

/-- R260. -/
theorem test_dec_b : shows { rst with regs := { rst.regs with b := 0x01 } } 0x05 0x00 0x00
    (fun t => [t.regs.b.toNat, t.flags.toByte.toNat, t.tcycles]) = [0x00, 0xD0, 4] := by decide

/-- R260. -/
theorem test_dec_c : shows { rst with regs := { rst.regs with c := 0x00 }, flags := Flags.ofByte 0x00 } 0x0D 0x00 0x00
    (fun t => [t.regs.c.toNat, t.flags.toByte.toNat, t.tcycles]) = [0xFF, 0x60, 4] := by decide

/-- R261. -/
theorem test_inc_atHl : shows { rst with regs := { rst.regs with h := 0xC0, l := 0x00 }, ram := ⟨[(0xC000, 0x0F)]⟩ } 0x34 0x00 0x00
    (fun t => [t.flags.toByte.toNat, (t.memRead 0xC000).toNat, t.tcycles]) = [0x30, 0x10, 12] := by decide

/-- R262. -/
theorem test_dec_atHl : shows { rst with regs := { rst.regs with h := 0xC0, l := 0x00 }, flags := Flags.ofByte 0x00, ram := ⟨[]⟩ } 0x35 0x00 0x00
    (fun t => [t.flags.toByte.toNat, (t.memRead 0xC000).toNat, t.tcycles]) = [0x60, 0xFF, 12] := by decide

/-- R280. -/
theorem test_add_hl_hl : shows { rst with regs := { rst.regs with h := 0x80, l := 0x00 }, flags := Flags.ofByte 0x80 } 0x29 0x00 0x00
    (fun t => [t.regs.h.toNat, t.regs.l.toNat, t.flags.toByte.toNat, t.tcycles]) = [0x00, 0x00, 0x90, 8] := by decide

/-- R280. -/
theorem test_add_hl_bc : shows { rst with regs := { rst.regs with h := 0x0F, l := 0xFF, b := 0x00, c := 0x01 }, flags := Flags.ofByte 0x00 } 0x09 0x00 0x00
    (fun t => [t.regs.h.toNat, t.regs.l.toNat, t.flags.toByte.toNat, t.tcycles]) = [0x10, 0x00, 0x20, 8] := by decide

/-- R281. -/
theorem test_inc_bc : shows { rst with regs := { rst.regs with b := 0xFF, c := 0xFF }, flags := Flags.ofByte 0x00 } 0x03 0x00 0x00
    (fun t => [t.regs.b.toNat, t.regs.c.toNat, t.flags.toByte.toNat, t.tcycles]) = [0x00, 0x00, 0x00, 8] := by decide

/-- R283. -/
theorem test_dec_de : shows { rst with regs := { rst.regs with d := 0x00, e := 0x00 }, flags := Flags.ofByte 0x00 } 0x1B 0x00 0x00
    (fun t => [t.regs.d.toNat, t.regs.e.toNat, t.flags.toByte.toNat, t.tcycles]) = [0xFF, 0xFF, 0x00, 8] := by decide

/-- R282. -/
theorem test_add_sp_e : shows { rst with sp := 0xFFF8 } 0xE8 0x08 0x00
    (fun t => [t.flags.toByte.toNat, t.sp.toNat, t.tcycles]) = [0x30, 0x0000, 16] := by decide

/-- R282. -/
theorem test_add_sp_e_again : shows { rst with sp := 0x0001 } 0xE8 0xFE 0x00
    (fun t => [t.flags.toByte.toNat, t.sp.toNat, t.tcycles]) = [0x00, 0xFFFF, 16] := by decide

/-- R290. -/
theorem test_rlca : shows { rst with regs := { rst.regs with a := 0x85 }, flags := Flags.ofByte 0x00 } 0x07 0x00 0x00
    (fun t => [t.regs.a.toNat, t.flags.toByte.toNat, t.tcycles]) = [0x0B, 0x10, 4] := by decide

/-- R290. -/
theorem test_rlca_again : shows { rst with regs := { rst.regs with a := 0x00 }, flags := Flags.ofByte 0x80 } 0x07 0x00 0x00
    (fun t => [t.regs.a.toNat, t.flags.toByte.toNat, t.tcycles]) = [0x00, 0x00, 4] := by decide

/-- R291. -/
theorem test_rrca : shows { rst with regs := { rst.regs with a := 0x01 }, flags := Flags.ofByte 0x00 } 0x0F 0x00 0x00
    (fun t => [t.regs.a.toNat, t.flags.toByte.toNat, t.tcycles]) = [0x80, 0x10, 4] := by decide

/-- R292. -/
theorem test_rla : shows { rst with regs := { rst.regs with a := 0x80 }, flags := Flags.ofByte 0x00 } 0x17 0x00 0x00
    (fun t => [t.regs.a.toNat, t.flags.toByte.toNat, t.tcycles]) = [0x00, 0x10, 4] := by decide

/-- R292. -/
theorem test_rla_again : shows { rst with regs := { rst.regs with a := 0x95 }, flags := Flags.ofByte 0x10 } 0x17 0x00 0x00
    (fun t => [t.regs.a.toNat, t.flags.toByte.toNat, t.tcycles]) = [0x2B, 0x10, 4] := by decide

/-- R293. -/
theorem test_rra : shows { rst with regs := { rst.regs with a := 0x01 }, flags := Flags.ofByte 0x00 } 0x1F 0x00 0x00
    (fun t => [t.regs.a.toNat, t.flags.toByte.toNat, t.tcycles]) = [0x00, 0x10, 4] := by decide

/-- R293. -/
theorem test_rra_again : shows { rst with regs := { rst.regs with a := 0x81 }, flags := Flags.ofByte 0x10 } 0x1F 0x00 0x00
    (fun t => [t.regs.a.toNat, t.flags.toByte.toNat, t.tcycles]) = [0xC0, 0x10, 4] := by decide

/-- R301. -/
theorem test_jp_nn : shows rst 0xC3 0x00 0x20
    (fun t => [t.pc.toNat, t.tcycles]) = [0x2000, 16] := by decide

/-- R302. -/
theorem test_jp_nz_nn : shows { rst with flags := Flags.ofByte 0x80 } 0xC2 0x00 0x20
    (fun t => [t.pc.toNat, t.tcycles]) = [0x0103, 12] := by decide

/-- R302. -/
theorem test_jp_nz_nn_again : shows { rst with flags := Flags.ofByte 0x00 } 0xC2 0x00 0x20
    (fun t => [t.pc.toNat, t.tcycles]) = [0x2000, 16] := by decide

/-- R303. -/
theorem test_jp_hl : shows { rst with regs := { rst.regs with h := 0x40, l := 0x00 } } 0xE9 0x00 0x00
    (fun t => [t.pc.toNat, t.tcycles]) = [0x4000, 4] := by decide

/-- R304. -/
theorem test_jr_e : shows rst 0x18 0xFE 0x00
    (fun t => [t.pc.toNat, t.tcycles]) = [0x0100, 12] := by decide

/-- R304. -/
theorem test_jr_e_again : shows rst 0x18 0x7F 0x00
    (fun t => [t.pc.toNat, t.tcycles]) = [0x0181, 12] := by decide

/-- R305. -/
theorem test_jr_c_e : shows { rst with flags := Flags.ofByte 0x10 } 0x38 0x10 0x00
    (fun t => [t.pc.toNat, t.tcycles]) = [0x0112, 12] := by decide

/-- R305. -/
theorem test_jr_c_e_again : shows { rst with flags := Flags.ofByte 0x00 } 0x38 0x10 0x00
    (fun t => [t.pc.toNat, t.tcycles]) = [0x0102, 8] := by decide

/-- R306. -/
theorem test_call_nn : shows { rst with sp := 0xFFFE } 0xCD 0x34 0x12
    (fun t => [t.pc.toNat, t.sp.toNat, (t.memRead 0xFFFD).toNat, (t.memRead 0xFFFC).toNat, t.tcycles]) = [0x1234, 0xFFFC, 0x01, 0x03, 24] := by decide

/-- R307. -/
theorem test_call_c_nn : shows { rst with flags := Flags.ofByte 0x00, sp := 0xFFFE } 0xDC 0x34 0x12
    (fun t => [t.pc.toNat, t.sp.toNat, t.tcycles]) = [0x0103, 0xFFFE, 12] := by decide

/-- R307. -/
theorem test_call_z_nn : shows { rst with flags := Flags.ofByte 0x80, sp := 0xFFFE } 0xCC 0x34 0x12
    (fun t => [t.pc.toNat, t.sp.toNat, t.tcycles]) = [0x1234, 0xFFFC, 24] := by decide

/-- R308. -/
theorem test_ret : shows { rst with sp := 0xFFFC, ram := ⟨[(0xFFFC, 0x03), (0xFFFD, 0x02)]⟩ } 0xC9 0x00 0x00
    (fun t => [t.pc.toNat, t.sp.toNat, t.tcycles]) = [0x0203, 0xFFFE, 16] := by decide

/-- R309. -/
theorem test_ret_nz : shows { rst with flags := Flags.ofByte 0x80, sp := 0xFFFC, ram := ⟨[(0xFFFC, 0x03), (0xFFFD, 0x02)]⟩ } 0xC0 0x00 0x00
    (fun t => [t.pc.toNat, t.sp.toNat, t.tcycles]) = [0x0101, 0xFFFC, 8] := by decide

/-- R309. -/
theorem test_ret_nc : shows { rst with flags := Flags.ofByte 0x00, sp := 0xFFFC, ram := ⟨[(0xFFFC, 0x03), (0xFFFD, 0x02)]⟩ } 0xD0 0x00 0x00
    (fun t => [t.pc.toNat, t.sp.toNat, t.tcycles]) = [0x0203, 0xFFFE, 20] := by decide

/-- R312. -/
theorem test_rst_28 : shows { rst with sp := 0xFFFE } 0xEF 0x00 0x00
    (fun t => [t.pc.toNat, t.sp.toNat, (t.memRead 0xFFFD).toNat, (t.memRead 0xFFFC).toNat, t.tcycles]) = [0x0028, 0xFFFC, 0x01, 0x01, 16] := by decide

/-- R312. -/
theorem test_rst_38 : shows { rst with sp := 0xFFFE } 0xFF 0x00 0x00
    (fun t => [t.pc.toNat, t.sp.toNat, t.tcycles]) = [0x0038, 0xFFFC, 16] := by decide

/-- R330. -/
theorem test_daa : shows { rst with regs := { rst.regs with a := 0x0A }, flags := Flags.ofByte 0x00 } 0x27 0x00 0x00
    (fun t => [t.regs.a.toNat, t.flags.toByte.toNat, t.tcycles]) = [0x10, 0x00, 4] := by decide

/-- R330. -/
theorem test_daa_again : shows { rst with regs := { rst.regs with a := 0x9A }, flags := Flags.ofByte 0x00 } 0x27 0x00 0x00
    (fun t => [t.regs.a.toNat, t.flags.toByte.toNat, t.tcycles]) = [0x00, 0x90, 4] := by decide

/-- R331. -/
theorem test_cpl : shows { rst with regs := { rst.regs with a := 0x35 }, flags := Flags.ofByte 0x90 } 0x2F 0x00 0x00
    (fun t => [t.regs.a.toNat, t.flags.toByte.toNat, t.tcycles]) = [0xCA, 0xF0, 4] := by decide

/-- R332. -/
theorem test_scf : shows { rst with flags := Flags.ofByte 0xE0 } 0x37 0x00 0x00
    (fun t => [t.flags.toByte.toNat, t.tcycles]) = [0x90, 4] := by decide

/-- R333. -/
theorem test_ccf : shows { rst with flags := Flags.ofByte 0xF0 } 0x3F 0x00 0x00
    (fun t => [t.flags.toByte.toNat, t.tcycles]) = [0x80, 4] := by decide

/-- R333. -/
theorem test_ccf_again : shows { rst with flags := Flags.ofByte 0x80 } 0x3F 0x00 0x00
    (fun t => [t.flags.toByte.toNat, t.tcycles]) = [0x90, 4] := by decide

/-- R334. -/
theorem test_nop : shows rst 0x00 0x00 0x00
    (fun t => [t.regs.a.toNat, t.flags.toByte.toNat, t.pc.toNat, t.tcycles]) = [0x01, 0xB0, 0x0101, 4] := by decide

/-- R337. -/
theorem test_stop : shows rst 0x10 0x00 0x00
    (fun t => [t.pc.toNat, t.halted.toNat, t.tcycles]) = [0x0102, 1, 4] := by decide

/-- R338. -/
theorem test_di : shows { rst with ime := true, eiDelayPending := true } 0xF3 0x00 0x00
    (fun t => [t.ime.toNat, t.eiDelayPending.toNat, t.tcycles]) = [0, 0, 4] := by decide

/-- R339. -/
theorem test_ei : shows rst 0xFB 0x00 0x00
    (fun t => [t.ime.toNat, t.eiDelayPending.toNat, t.tcycles]) = [0, 1, 4] := by decide

/-- R342. -/
theorem test_reti : shows { rst with sp := 0xFFFC, ram := ⟨[(0xFFFC, 0x50), (0xFFFD, 0x01)]⟩ } 0xD9 0x00 0x00
    (fun t => [t.pc.toNat, t.sp.toNat, t.ime.toNat, t.tcycles]) = [0x0150, 0xFFFE, 1, 16] := by decide

/-- R346. -/
theorem test_illegal_d3 : shows rst 0xD3 0x00 0x00
    (fun t => [t.regs.a.toNat, t.flags.toByte.toNat, t.pc.toNat, t.tcycles]) = [0x01, 0xB0, 0x0101, 4] := by decide

/-- R346. -/
theorem test_illegal_fd : shows rst 0xFD 0x00 0x00
    (fun t => [t.pc.toNat, t.tcycles]) = [0x0101, 4] := by decide

/-- R361. -/
theorem test_rlc_b : shows { rst with regs := { rst.regs with b := 0x85 }, flags := Flags.ofByte 0x00 } 0xCB 0x00 0x00
    (fun t => [t.regs.b.toNat, t.flags.toByte.toNat, t.tcycles]) = [0x0B, 0x10, 8] := by decide

/-- R361. -/
theorem test_rlc_a : shows { rst with regs := { rst.regs with a := 0x00 }, flags := Flags.ofByte 0x10 } 0xCB 0x07 0x00
    (fun t => [t.regs.a.toNat, t.flags.toByte.toNat, t.tcycles]) = [0x00, 0x80, 8] := by decide

/-- R362. -/
theorem test_rrc_c : shows { rst with regs := { rst.regs with c := 0x01 }, flags := Flags.ofByte 0x00 } 0xCB 0x09 0x00
    (fun t => [t.regs.c.toNat, t.flags.toByte.toNat, t.tcycles]) = [0x80, 0x10, 8] := by decide

/-- R363. -/
theorem test_rl_l : shows { rst with regs := { rst.regs with l := 0x11 }, flags := Flags.ofByte 0x10 } 0xCB 0x15 0x00
    (fun t => [t.regs.l.toNat, t.flags.toByte.toNat, t.tcycles]) = [0x23, 0x00, 8] := by decide

/-- R363. -/
theorem test_rl_c : shows { rst with regs := { rst.regs with c := 0x80 }, flags := Flags.ofByte 0x00 } 0xCB 0x11 0x00
    (fun t => [t.regs.c.toNat, t.flags.toByte.toNat, t.tcycles]) = [0x00, 0x90, 8] := by decide

/-- R364. -/
theorem test_rr_a : shows { rst with regs := { rst.regs with a := 0x8A }, flags := Flags.ofByte 0x00 } 0xCB 0x1F 0x00
    (fun t => [t.regs.a.toNat, t.flags.toByte.toNat, t.tcycles]) = [0x45, 0x00, 8] := by decide

/-- R364. -/
theorem test_rr_e : shows { rst with regs := { rst.regs with e := 0x01 }, flags := Flags.ofByte 0x00 } 0xCB 0x1B 0x00
    (fun t => [t.regs.e.toNat, t.flags.toByte.toNat, t.tcycles]) = [0x00, 0x90, 8] := by decide

/-- R365. -/
theorem test_sla_d : shows { rst with regs := { rst.regs with d := 0x3C }, flags := Flags.ofByte 0x00 } 0xCB 0x22 0x00
    (fun t => [t.regs.d.toNat, t.flags.toByte.toNat, t.tcycles]) = [0x78, 0x00, 8] := by decide

/-- R365. -/
theorem test_sla_a : shows { rst with regs := { rst.regs with a := 0x80 }, flags := Flags.ofByte 0x00 } 0xCB 0x27 0x00
    (fun t => [t.regs.a.toNat, t.flags.toByte.toNat, t.tcycles]) = [0x00, 0x90, 8] := by decide

/-- R366. -/
theorem test_sra_a : shows { rst with regs := { rst.regs with a := 0x8A }, flags := Flags.ofByte 0x00 } 0xCB 0x2F 0x00
    (fun t => [t.regs.a.toNat, t.flags.toByte.toNat, t.tcycles]) = [0xC5, 0x00, 8] := by decide

/-- R366. -/
theorem test_sra_b : shows { rst with regs := { rst.regs with b := 0x01 }, flags := Flags.ofByte 0x00 } 0xCB 0x28 0x00
    (fun t => [t.regs.b.toNat, t.flags.toByte.toNat, t.tcycles]) = [0x00, 0x90, 8] := by decide

/-- R367. -/
theorem test_swap_a : shows { rst with regs := { rst.regs with a := 0xF1 }, flags := Flags.ofByte 0x10 } 0xCB 0x37 0x00
    (fun t => [t.regs.a.toNat, t.flags.toByte.toNat, t.tcycles]) = [0x1F, 0x00, 8] := by decide

/-- R367. -/
theorem test_swap_b : shows { rst with regs := { rst.regs with b := 0x00 }, flags := Flags.ofByte 0x70 } 0xCB 0x30 0x00
    (fun t => [t.regs.b.toNat, t.flags.toByte.toNat, t.tcycles]) = [0x00, 0x80, 8] := by decide

/-- R368. -/
theorem test_srl_b : shows { rst with regs := { rst.regs with b := 0xFF }, flags := Flags.ofByte 0x00 } 0xCB 0x38 0x00
    (fun t => [t.regs.b.toNat, t.flags.toByte.toNat, t.tcycles]) = [0x7F, 0x10, 8] := by decide

/-- R368. -/
theorem test_srl_a : shows { rst with regs := { rst.regs with a := 0x01 }, flags := Flags.ofByte 0x00 } 0xCB 0x3F 0x00
    (fun t => [t.regs.a.toNat, t.flags.toByte.toNat, t.tcycles]) = [0x00, 0x90, 8] := by decide

/-- R380. -/
theorem test_bit_7_h : shows { rst with regs := { rst.regs with h := 0x80 }, flags := Flags.ofByte 0x00 } 0xCB 0x7C 0x00
    (fun t => [t.regs.h.toNat, t.flags.toByte.toNat, t.tcycles]) = [0x80, 0x20, 8] := by decide

/-- R380. -/
theorem test_bit_7_h_again : shows { rst with regs := { rst.regs with h := 0x7F }, flags := Flags.ofByte 0x10 } 0xCB 0x7C 0x00
    (fun t => [t.regs.h.toNat, t.flags.toByte.toNat, t.tcycles]) = [0x7F, 0xB0, 8] := by decide

/-- R381. -/
theorem test_res_0_a : shows { rst with regs := { rst.regs with a := 0xFF }, flags := Flags.ofByte 0xB0 } 0xCB 0x87 0x00
    (fun t => [t.regs.a.toNat, t.flags.toByte.toNat, t.tcycles]) = [0xFE, 0xB0, 8] := by decide

/-- R381. -/
theorem test_res_7_atHl : shows { rst with regs := { rst.regs with h := 0xC0, l := 0x00 }, flags := Flags.ofByte 0x00, ram := ⟨[(0xC000, 0xFF)]⟩ } 0xCB 0xBE 0x00
    (fun t => [t.flags.toByte.toNat, (t.memRead 0xC000).toNat, t.tcycles]) = [0x00, 0x7F, 16] := by decide

/-- R382. -/
theorem test_set_7_atHl : shows { rst with regs := { rst.regs with h := 0xC0, l := 0x00 }, flags := Flags.ofByte 0x00, ram := ⟨[]⟩ } 0xCB 0xFE 0x00
    (fun t => [t.flags.toByte.toNat, (t.memRead 0xC000).toNat, t.tcycles]) = [0x00, 0x80, 16] := by decide

/-- R382. -/
theorem test_set_0_b : shows { rst with regs := { rst.regs with b := 0x00 }, flags := Flags.ofByte 0x00 } 0xCB 0xC0 0x00
    (fun t => [t.regs.b.toNat, t.flags.toByte.toNat, t.tcycles]) = [0x01, 0x00, 8] := by decide

/-! ### Interrupts, EI and HALT (95_test_vectors.md section 2.2) -/

/-- What a CPU step of `s` with the three bytes at PC shows, before the devices advance. -/
def cpuShows (s : State) (b0 b1 b2 : Byte) (f : State → List Nat) : List Nat :=
  match cpuStep (s.plant b0 b1 b2) with
  | .next t => f t
  | .fault _ => []
  | .refused _ => []

/-- X1: STAT wins over the timer, after a NOP. -/
theorem test_dispatch_lowest : cpuShows { rst with ime := true, ie := 0x1F, iflag := 6 } 0x00 0x00 0x00
    (fun t => [t.pc.toNat, t.sp.toNat, (t.memRead 0xFFFD).toNat, (t.memRead 0xFFFC).toNat, t.iflag.toNat,
      t.ime.toNat, t.tcycles]) = [0x48, 0xFFFC, 0x01, 0x01, 4, 0, 24] := by decide

/-- X6: HALT with IME set and a request pending is dispatched out of in the same step. -/
theorem test_halt_dispatched : cpuShows { rst with ime := true, ie := 4, iflag := 4 } 0x76 0x00 0x00
    (fun t => [t.pc.toNat, t.halted.toNat, (t.memRead 0xFFFC).toNat, t.iflag.toNat, t.tcycles]) =
    [0x50, 0, 0x01, 0, 24] := by decide

/-- X5: the HALT bug. -/
theorem test_halt_bug : shows { rst with ie := 4, iflag := 4 } 0x76 0x00 0x00
    (fun t => [t.pc.toNat, t.halted.toNat, t.haltBugActive.toNat, t.tcycles]) = [0x101, 0, 1, 4] := by decide

/-- X12: RETI, and the dispatch of what it enables. -/
theorem test_reti_dispatch :
    shows { rst with sp := 0xFFFC, ie := 1, iflag := 1, ram := ⟨[(0xFFFC, 0x50), (0xFFFD, 0x01)]⟩ } 0xD9 0x00 0x00
    (fun t => [t.pc.toNat, t.sp.toNat, (t.memRead 0xFFFC).toNat, t.ime.toNat, t.tcycles]) =
    [0x40, 0xFFFC, 0x50, 0, 36] := by decide

/-! ### The bus and the devices (95_test_vectors.md sections 2.3 to 2.7) -/

/-- A PPU mode and cycle count set directly, with four OAM bytes. -/
def inMode (m : PpuMode) (c : Nat) : State :=
  { rst with ppu := { Ppu.reset postBootDmg with mode := m, cycleCount := c },
             ram := ⟨[(0xFE08, 0x10), (0xFE09, 0x20), (0xFE0A, 0x30), (0xFE9D, 0x77)]⟩ }

/-- M1, M3: the OAM bug of mode 2. -/
theorem test_oam_bug : ((inMode .oamSearch 5).memWrite 0xFE10 0x99).ram.read 0xFE10 = 0x20 ∧
    ((inMode .oamSearch 79).memWrite 0xFE00 0x99).ram.read 0xFE00 = 0x77 := by decide

/-- M9: the echo of WRAM. -/
theorem test_echo : (rst.memWrite 0xD123 0x5A).memRead 0xF123 = 0x5A := by decide

/-- A timer set directly, its edge signal current. -/
def timed (counter : Word) (tac : BitVec 3) (tima : Byte) (prev : Bool) : State :=
  { rst with timer := { counter := counter, tima := tima, tma := 0x42, tac := tac, prevSignal := prev,
                        reloadCountdown := 0 } }

/-- T3, T4, T7: a falling edge made by a write. -/
theorem test_timer_edges : ((timed 8 5 0x10 true).memWrite 0xFF07 0x04).timer.tima = 0x11 ∧
    ((timed 8 5 0x10 true).memWrite 0xFF07 0x01).timer.tima = 0x11 ∧
    ((timed 0xABCC 5 0x10 true).memWrite 0xFF04 0x00).timer.tima = 0x11 := by decide

/-- T8: the overflow. -/
theorem test_timer_overflow : ((timed 0x000F 5 0xFF true).advanceTimer 1).timer.tima = 0x00 ∧
    ((timed 0x000F 5 0xFF true).advanceTimer 1).timer.reloadCountdown = 4 := by decide

/-- V7: the last T-cycle of line 143 requests VBlank. -/
theorem test_vblank : ((Ppu.tick ⟨[]⟩ { Ppu.reset postBootDmg with ly := 143, cycleCount := 455, mode := .hblank } 0).2) = 1 := by
  decide

/-- The end of a line on which the window was drawn, and of the last line of the frame (62_ppu.md R484, R500). -/
theorem test_window_line : ∀ line ∈ [(10, 6), (153, 0)],
    let p := { Ppu.reset postBootDmg with ly := BitVec.ofNat 8 line.1, cycleCount := 455, mode := .hblank,
                                          windowLine := 5, windowDrawn := true }
    (p.tick ⟨[]⟩ 0).1.windowLine.toNat = line.2 ∧ (p.tick ⟨[]⟩ 0).1.windowDrawn = false := by decide

/-- V16: a row of a tile. -/
theorem test_tile_row : (List.range 8).map (tilePixel ⟨[(0x8000, 0x3C), (0x8001, 0x7E)]⟩ 0x8000 0) =
    [0, 2, 3, 3, 3, 3, 2, 0] := by decide

/-- V17: tile addresses. -/
theorem test_tile_address : tileAddress false 0x80 = 0x8800 ∧ tileAddress false 0x7F = 0x97F0 ∧
    tileAddress true 0x80 = 0x8800 := by decide

/-- A3: power off. -/
theorem test_apu_off : (rst.memWrite 0xFF26 0x00).memRead 0xFF26 = 0x70 ∧
    (rst.memWrite 0xFF26 0x00).memRead 0xFF11 = 0x3F := by decide

/-- Wave RAM stores while the power is off (63_apu.md R543), and an I/O address with no register does not. -/
theorem test_wave_ram_off : ((rst.memWrite 0xFF26 0x00).memWrite 0xFF3F 0x5A).memRead 0xFF3F = 0x5A ∧
    (rst.memWrite 0xFF4C 0x5A).memRead 0xFF4C = 0xFF ∧ (rst.memWrite 0xFF01 0x5A).memRead 0xFF01 = 0xFF := by decide

/-- A10: a trigger whose sweep overflows disables channel 1. -/
theorem test_sweep_overflow : ((((rst.memWrite 0xFF10 0x11).memWrite 0xFF12 0xF0).memWrite 0xFF13 0xFF).memWrite
    0xFF14 0x87).memRead 0xFF26 = 0xF0 := by decide

/-- A timer about to reach 0 (63_apu.md R561 to R563): the duty position wraps, an even wave position takes the high
nibble, the shift register takes the XOR of two 1s into bit 14, in the narrow mode into bit 6 as well. -/
theorem test_channel_timers :
    (Pulse.tickTimer 2 { (Apu.reset postBootDmg).ch2 with enabled := true, timer := 1, dutyPos := 7 }).dutyPos = 0 ∧
    (Wave.tickTimer ⟨[(0xFF31, 0xA5)]⟩ { (Apu.reset postBootDmg).ch3 with
      enabled := true, timer := 1, position := 1, frequency := 0x7FF }).sample = 0xA ∧
    (Noise.tickTimer { (Apu.reset postBootDmg).ch4 with enabled := true, timer := 1 }).lfsr = 0x3FFF ∧
    (Noise.tickTimer { (Apu.reset postBootDmg).ch4 with enabled := true, timer := 1, nr43 := 8 }).lfsr = 0x3FBF := by
  decide

/-- B3, B4: the ROM bank of MBC1. -/
theorem test_mbc1_bank : ((Mbc.reset1.writeControl 0x2000 0x05).writeControl 0x4000 0x01).mapRom 0x4000 = 0x94000 ∧
    ((Mbc.reset1.writeControl 0x2000 0x20).writeControl 0x4000 0x01).mapRom 0x4000 = 0x84000 := by decide

/-- B14: the nine bank bits of MBC5. -/
theorem test_mbc5_bank : ((Mbc.reset5.writeControl 0x2000 0x34).writeControl 0x3000 0x01).mapRom 0x4000 = 0x4D0000 := by
  decide

/-- A cartridge with the given controller, three ROM banks and external RAM. -/
def cartOf (m : Mbc) (ramSize : Nat) : Cartridge :=
  { rom := ⟨[(0, 0x11)]⟩, romSize := 0xC000, mbc := m, xram := ⟨[]⟩, ramSize := ramSize, battery := false }

/-- B10: a 4-bit cell of MBC2, mirrored every 0x200. -/
theorem test_mbc2_cell :
    (((State.memWrite { rst with cart := cartOf Mbc.reset2 512 } 0x0000 0x0A).memWrite 0xA000 0x35).memRead 0xA200) =
      0xF5 := by decide

/-- B17: an image too short for its header is refused. -/
theorem test_load_short : loadCartridge [0x00] ⟨[]⟩ = .error .fileTooShort := by decide

/-- The bound on external RAM holds for a RAM size code of no row (10_state.md R42). -/
theorem test_ramSize_bound : ramSizeOf 0x06 ≤ 0x20000 := Nat.min_le_right _ _

/-- A 4-bit cell keeps the low nibble of a loaded byte, and the saved byte ends with it (64_cartridge.md R597, R601). -/
theorem test_mbc2_sram : ((cartOf (.mbc2 true 1) 512).loadSram [0xAB]).readRam 0xA000 = 0xFB ∧
    (((cartOf (.mbc2 true 1) 512).loadSram [0xAB]).savedByte 0).setWidth 4 = 0xB#4 :=
  ⟨by decide, by
    simp only [Cartridge.savedByte, cartOf, Cartridge.loadSram, Mbc.nibbleRam, if_true, BitVec.setWidth_append_eq_right]
    decide⟩

/-- A table of 12 T-cycles taken, 8 not, for every primary opcode, and 20 for every CB opcode. -/
def otherTable : CycleTable := { primary := Vector.replicate 256 ⟨12, 8⟩, cb := Vector.replicate 256 ⟨20, 20⟩ }

/-- A state whose `CYCLE_TABLE` is that one. -/
def otherCycles : State := { rst with params := { rst.params with cycleTable := some otherTable } }

/-- Z is 1 after reset: JR NZ is not taken, JR Z is; NOP has no condition; BIT 7,H counts by the CB table. -/
theorem test_cycle_table : shows otherCycles 0x20 0x05 0x00 (fun t => [t.pc.toNat, t.tcycles]) = [0x102, 8] ∧
    shows otherCycles 0x28 0x05 0x00 (fun t => [t.pc.toNat, t.tcycles]) = [0x107, 12] ∧
    shows otherCycles 0x00 0x00 0x00 (fun t => [t.pc.toNat, t.tcycles]) = [0x101, 12] ∧
    shows otherCycles 0xCB 0x7C 0x00 (fun t => [t.pc.toNat, t.tcycles]) = [0x102, 20] := by decide

/-- A state at a phase of its sample clock, one second's worth of T-cycles long at 44 100 samples. -/
def atPhase (phase : Nat) : State := { rst with audio := { rst.audio with phase := phase } }

/-- A sample falls due at the first T-cycle of the next step, or not in that step. -/
theorem test_sample_clock : shows (atPhase (4194304 - 44100)) 0x00 0x00 0x00
      (fun t => [t.audio.samples.length, t.audio.phase]) = [1, 3 * 44100] ∧
    shows (atPhase 0) 0x00 0x00 0x00 (fun t => [t.audio.samples.length, t.audio.phase]) = [0, 4 * 44100] := by decide

/-- A state whose sample stream holds the given stereo samples. -/
def streaming (samples : List (Int × Int)) : State := { rst with audio := { rst.audio with samples := samples } }

/-- `take_samples` hands over the oldest, interleaved, and counts what it hands over (63_apu.md R564). -/
theorem test_take_samples : ((streaming [(1, -2), (3, -4), (5, -6)]).takeSamples 2).dst = [1, -2, 3, -4] ∧
    ((streaming [(1, -2), (3, -4), (5, -6)]).takeSamples 2).after.audio.samples = [(5, -6)] ∧
    ((streaming [(1, -2)]).takeSamples 2).count = 1 := by decide

/-- Eleven sprites on line 0: all at X 8 but the tenth (X 3) and the eleventh (X 1); tile number the index. -/
def elevenSprites : Memory :=
  ⟨((List.range 11).map fun i => [(0xFE00 + 4 * i, 0x10#8),
    (0xFE01 + 4 * i, if i = 9 then 0x03#8 else if i = 10 then 0x01#8 else 0x08#8),
    (0xFE02 + 4 * i, BitVec.ofNat 8 i)]).flatten⟩

/-- The first ten in OAM order are taken, then sorted by X, equal X by index (62_ppu.md R502, R503). -/
theorem test_first_ten_sprites :
    (Ppu.lineSprites elevenSprites { Ppu.reset postBootDmg with lcdc := 0x93 }).map Sprite.tile =
      [9, 0, 1, 2, 3, 4, 5, 6, 7, 8] := by decide

/-- A frame of 144 lines of 160 (62_ppu.md R481). -/
theorem test_blankFrame : FrameShape blankFrame := by
  constructor
  · simp [blankFrame]
  · rw [blankFrame, List.all_eq_true]
    intro r h
    rw [List.eq_of_mem_replicate h, List.length_replicate]
    decide

/-! ### Witnesses: for each statement with hypotheses, a state and operands that meet them -/

theorem test_hyp_DecodeOfEncode : (Instr.jp_nn 0x129A).wellFormed = true ∧ (Instr.bit_7_h).wellFormed = true := by decide

theorem test_hyp_EncodeOfDecode : decode [0xC3, 0x9A, 0x12, 0x55] = .ok (.jp_nn 0x129A, [0x55]) ∧
    decode [0x10, 0x8A] = .ok (.stop 0x8A, []) := by decide

theorem test_hyp_LengthByFirstByte : Instr.nop.wellFormed = true ∧ (Instr.ld_b_n 0xFF).wellFormed = true ∧
    (Instr.call_nn 0xFFFF).wellFormed = true := by decide

theorem test_hyp_StepRunsDecoded : ∃ u : State, u = (rst.plant 0x3E 0x42 0x00).applyInputs.countStep ∧ u.halted = false ∧
    decode [u.memRead u.pc, u.memRead u.operandAddr, u.memRead (u.operandAddr + 1)] = .ok (.ld_a_n 0x42, [0x00]) ∧
    (∃ t : State, exec (.ld_a_n 0x42) u.afterFetch = .next t) ∧ u.params.cycleTable = none ∧
    otherCycles.params.cycleTable = some otherTable := ⟨_, rfl, rfl, rfl, ⟨_, rfl⟩, rfl, rfl⟩

theorem test_hyp_StepCounts : (∃ t : State, step rst = .next t) ∧ rst.params.cycleTable = none ∧
    rst.audio.phase < 4194304 * rst.params.sampleRate.seconds ∧
    (streaming [(1, -2), (3, -4)]).audio.samples = [(1, -2)] ++ [(3, -4)] ∧ [((1, -2) : Int × Int)].length = 1 ∧
    (streaming [(1, -2)]).audio.samples = [(1, -2)] ++ [] :=
  ⟨⟨_, rfl⟩, rfl, by decide, rfl, rfl, rfl⟩

theorem test_hyp_HaltedSteps : State.pending { rst with halted := true } = 0 ∧
    firstInterrupt (State.pending { rst with halted := true, ime := true, ie := 0x10, iflag := 0x10 }) = some .joypad ∧
    firstInterrupt (State.pending { rst with halted := true, ime := true, ie := 0xFF, iflag := 0x1F }) = some .vblank ∧
    State.pending { rst with halted := true, ime := false, ie := 0x10, iflag := 0x10 } ≠ 0 ∧
    (State.applyInputs { rst with halted := true }).halted = true ∧
    ∃ e : State, cpuStep (State.applyInputs { rst with halted := true }) = .next e :=
  ⟨by decide, by decide, by decide, by decide, by decide, _, rfl⟩

/-- SP at both ends of each region a push can be read back from. -/
theorem test_hyp_DispatchEffect : ([0xC002, 0xE001, 0xFE00, 0xFF82, 0xFFFF] : List Word).map
      (fun sp => (regionOf (sp - 1).toNat, regionOf (sp - 2).toNat)) =
    [(.wram, .wram), (.echo, .wram), (.echo, .echo), (.hram, .hram), (.hram, .hram)] := by decide

theorem test_hyp_PushPopRestores : ([0xC002, 0xE001, 0xFE00, 0xFF82, 0xFFFF] : List Word).map
      (fun sp => (regionOf (sp - 1).toNat, regionOf (sp - 2).toNat)) =
    [(.wram, .wram), (.echo, .wram), (.echo, .echo), (.hram, .hram), (.hram, .hram)] := by decide

/-- Each n has its pending set; and IME set with nothing pending. -/
theorem test_hyp_EndOfStepCheck : (∀ n < 5, (BitVec.setWidth 5 (0xFF#8) &&& (0x1F#5 <<< n)).getLsbD n = true ∧
    ∀ m < n, (BitVec.setWidth 5 (0xFF#8) &&& (0x1F#5 <<< n)).getLsbD m = false) ∧
    BitVec.setWidth 5 rst.ie &&& rst.iflag = 0 := by decide

theorem test_hyp_EiDelay : rst.halted = false ∧ (rst.plant 0xFB 0x00 0x00).fetched = .ei ∧ rst.ime = false ∧
    rst.eiDelayPending = false ∧ (rst.plant 0xF3 0x00 0x00).fetched = .di ∧
    (State.plant { rst with eiDelayPending := true } 0x00 0x00 0x00).eiDelayPending = true ∧
    (State.plant { rst with eiDelayPending := true } 0x00 0x00 0x00).fetched ≠ .di ∧
    (State.plant { rst with eiDelayPending := true } 0xFB 0x00 0x00).fetched ≠ .di := by decide

theorem test_hyp_HiddenStateFrame : (∃ t : State, exec .halt rst = .next t) ∧ (∃ t : State, exec .reti rst = .next t) ∧
    (∃ t : State, exec .di rst = .next t) ∧ ∃ t : State, exec (.stop 0x00) rst = .next t :=
  ⟨⟨_, rfl⟩, ⟨_, rfl⟩, ⟨_, rfl⟩, _, rfl⟩

/-- A state with the HALT bug set at 0xC000. -/
def bugged (b : Byte) : State := { rst with pc := 0xC000, haltBugActive := true, ram := ⟨[(0xC000, b)]⟩ }

theorem test_hyp_HaltBugRunsTwice : (bugged 0x04).halted = false ∧ (bugged 0x04).haltBugActive = true ∧
    (bugged 0x04).ime = false ∧ (bugged 0x04).eiDelayPending = false ∧ (bugged 0x04).memRead (bugged 0x04).pc = 0x04 ∧
    (bugged 0x3E).memRead (bugged 0x3E).pc = 0x3E := by decide

/-- The source of an ALU instruction and its T-cycles, for each operand form. -/
theorem test_hyp_AddAndAdc : ∀ src ∈ [Src8.reg .b, .reg .a, .atHl, .imm 0xFF], ∃ (v : Byte) (n : Nat),
    match src with
      | .reg r => v = rst.regs.get r ∧ n = 4
      | .atHl => v = rst.memRead (rst.regs.h ++ rst.regs.l) ∧ n = 8
      | .imm b => v = b ∧ n = 8 := by
  intro src _
  cases src <;> exact ⟨_, _, rfl, rfl⟩

theorem test_hyp_SubSbcAndCp : ∀ src ∈ [Src8.reg .b, .reg .a, .atHl, .imm 0xFF], ∃ (v : Byte) (n : Nat),
    match src with
      | .reg r => v = rst.regs.get r ∧ n = 4
      | .atHl => v = rst.memRead (rst.regs.h ++ rst.regs.l) ∧ n = 8
      | .imm b => v = b ∧ n = 8 := by
  intro src _
  cases src <;> exact ⟨_, _, rfl, rfl⟩

theorem test_hyp_AndXorAndOr : ∀ src ∈ [Src8.reg .b, .reg .a, .atHl, .imm 0xFF], ∃ (v : Byte) (n : Nat),
    match src with
      | .reg r => v = rst.regs.get r ∧ n = 4
      | .atHl => v = rst.memRead (rst.regs.h ++ rst.regs.l) ∧ n = 8
      | .imm b => v = b ∧ n = 8 := by
  intro src _
  cases src <;> exact ⟨_, _, rfl, rfl⟩

theorem test_hyp_PushAndPop : ∀ p : StackPair, ∃ hi lo : Byte,
    match p with
      | .bc => hi = rst.regs.b ∧ lo = rst.regs.c
      | .de => hi = rst.regs.d ∧ lo = rst.regs.e
      | .hl => hi = rst.regs.h ∧ lo = rst.regs.l
      | .af => hi = rst.regs.a ∧ lo = BitVec.ofBool rst.flags.z ++ BitVec.ofBool rst.flags.n ++
          BitVec.ofBool rst.flags.h ++ BitVec.ofBool rst.flags.c ++ 0#4 := by
  intro p
  cases p <;> exact ⟨_, _, rfl, rfl⟩

theorem test_hyp_IncAndDec : (0x01#8 : Byte) = rst.regs.get .a ∧
    (0xFF#8 : Byte) = rst.memRead (rst.regs.h ++ rst.regs.l) := by decide

theorem test_hyp_WordArithmetic : (0x0013#16 : Word) = rst.regs.b ++ rst.regs.c ∧ (0xFFFE#16 : Word) = rst.sp ∧
    (Instr.inc_sp = incPairInstr .sp ∧ (0xFFFF#16 : Word) = 0xFFFE + 1) ∧
    (Instr.dec_bc = decPairInstr .bc ∧ (0x0012#16 : Word) = 0x0013 - 1) := by decide

/-- Each condition, holding and not. -/
theorem test_hyp_Jumps : ∀ (cc : Cond) (taken : Bool), ∃ f : Flags,
    taken = (match cc with | .nz => !f.z | .z => f.z | .nc => !f.c | .c => f.c) := by
  intro cc taken
  cases cc <;> cases taken <;>
    first
      | exact ⟨⟨true, false, false, true⟩, rfl⟩
      | exact ⟨⟨false, false, false, false⟩, rfl⟩

theorem test_hyp_CallsAndRestarts : true = (match Cond.z with
    | .nz => !rst.flags.z | .z => rst.flags.z | .nc => !rst.flags.c | .c => rst.flags.c) := by decide

theorem test_hyp_Returns : false = (match Cond.nc with
    | .nz => !rst.flags.z | .z => rst.flags.z | .nc => !rst.flags.c | .c => rst.flags.c) ∧
    (0x0000#16 : Word) = State.memRead { rst with sp := 0xC000 } 0xC001 ++ State.memRead { rst with sp := 0xC000 } 0xC000 := by
  decide

theorem test_hyp_DaaDecimalSum : (0x99#8 : Byte) = BitVec.ofNat 8 (16 * (99 / 10) + 99 % 10) ∧
    (0x00#8 : Byte) = BitVec.ofNat 8 (16 * (0 / 10) + 0 % 10) := by decide

theorem test_hyp_CbRotatesAndShifts : ∀ (op : RotOp) (v : Byte), ∃ (w : Byte) (f : Flags),
    (match op with
      | .rlc => w = v.rotateLeft 1 ∧ f.c = v.getLsbD 7
      | .rrc => w = v.rotateRight 1 ∧ f.c = v.getLsbD 0
      | .rl => w = v.extractLsb' 0 7 ++ BitVec.ofBool rst.flags.c ∧ f.c = v.getLsbD 7
      | .rr => w = BitVec.ofBool rst.flags.c ++ v.extractLsb' 1 7 ∧ f.c = v.getLsbD 0
      | .sla => w = v.extractLsb' 0 7 ++ 0#1 ∧ f.c = v.getLsbD 7
      | .sra => w = v.extractLsb' 7 1 ++ v.extractLsb' 1 7 ∧ f.c = v.getLsbD 0
      | .swap => w = v.extractLsb' 0 4 ++ v.extractLsb' 4 4 ∧ f.c = false
      | .srl => w = 0#1 ++ v.extractLsb' 1 7 ∧ f.c = v.getLsbD 0) ∧
    f.z = decide (w = 0) ∧ f.n = false ∧ f.h = false := by
  intro op v
  cases op <;> exact ⟨_, ⟨_, _, _, _⟩, ⟨rfl, rfl⟩, rfl, rfl, rfl⟩

theorem test_hyp_BitResetsAndSets :
    (∀ k < 8, (0x00#8).getLsbD k = (if k = 7 then false else (0x80#8).getLsbD k)) ∧
    (∀ k < 8, (0x80#8).getLsbD k = (if k = 7 then true else (0x80#8).getLsbD k)) ∧
    (∀ k < 8, (0xFE#8).getLsbD k = (if k = 0 then false else (0xFF#8).getLsbD k)) ∧
    (∀ k < 8, (0xFF#8).getLsbD k = (if k = 0 then true else (0xFF#8).getLsbD k)) := by decide

/-- A PPU whose LCD is off, coherent. -/
def ppuOff : Ppu := { Ppu.reset postBootDmg with lcdc := 0x11, mode := .hblank }

/-- A PPU at a line and cycle, in the mode that is due there. -/
def ppuAt (ly : Byte) (cycle : Nat) (mode : PpuMode) : Ppu :=
  { Ppu.reset postBootDmg with ly := ly, cycleCount := cycle, mode := mode }

theorem test_ppuOff_coherent (params : Params) : ppuOff.Inv params :=
  ⟨by decide, by decide, rfl, Nat.zero_le _, fun _ => ⟨rfl, rfl, rfl, rfl, rfl⟩, fun _ => ⟨rfl, rfl⟩, by decide,
    test_blankFrame, test_blankFrame, by simp [ppuOff, Ppu.reset]⟩

theorem test_ppuAt_coherent (params : Params) (ly : Byte) (cycle : Nat) (h : ly.toNat < 154) (k : cycle < 456) :
    (ppuAt ly cycle (modeFor ly.toNat cycle)).Inv params :=
  ⟨k, h, by simp [ppuAt, Ppu.dueMode, Ppu.lcdOn, Ppu.reset, postBootDmg], Nat.zero_le _,
    fun h => absurd h (by simp [ppuAt, Ppu.lcdOn, Ppu.reset, postBootDmg]), fun h => absurd rfl h, Nat.zero_le _,
    test_blankFrame, test_blankFrame, by simp [ppuAt, Ppu.reset]⟩

theorem test_hyp_ReadContract : ppuOff.Inv rst.params ∧ ppuOff.lcdOn = false ∧
    [0x8000, 0x9FFF, 0xC000, 0xDFFF, 0xE000, 0xFDFF, 0xFE00, 0xFE9F, 0xFEA0, 0xFEFF, 0xFF80, 0xFFFE, 0xFFFF].map
      regionOf = [.vram, .vram, .wram, .wram, .echo, .echo, .oam, .oam, .prohibited, .prohibited, .hram, .hram, .ie] ∧
    [0xFF01, 0xFF03, 0xFF08, 0xFF0E, 0xFF4C, 0xFF7F].map regionOf = [.io, .io, .io, .io, .io, .io] :=
  ⟨test_ppuOff_coherent _, by decide, by decide, by decide⟩

theorem test_hyp_PlainWrites : (inMode .transfer 80).ppu.mode = .transfer ∧ (inMode .hblank 252).ppu.mode ≠ .transfer ∧
    [0x8000, 0x9FFF, 0xC000, 0xDDFF, 0xDE00, 0xDFFF, 0xE000, 0xFDFF, 0xFF80, 0xFFFE, 0xFFFF].map regionOf =
      [.vram, .vram, .wram, .wram, .wram, .wram, .echo, .echo, .hram, .hram, .ie] ∧
    [0xFEA0, 0xFEFF, 0xFF01, 0xFF03, 0xFF08, 0xFF0E, 0xFF4C, 0xFF7F].map regionOf =
      [.prohibited, .prohibited, .io, .io, .io, .io, .io, .io] := by decide

theorem test_hyp_OamWritesAndDma : rst.ppu.Inv rst.params ∧ rst.ppu.mode = .oamSearch ∧
    (inMode .transfer 80).ppu.mode = .transfer ∧ (inMode .vblank 0).ppu.mode = .vblank ∧
    regionOf 0xFE00 = .oam ∧ regionOf 0xFE9F = .oam ∧ regionOf 0xFEA0 ≠ .oam :=
  ⟨test_ppuAt_coherent _ 0 0 (by decide) (by decide), by decide, by decide, by decide, by decide, by decide, by decide⟩

theorem test_hyp_StoreReach : rst.storeReaches 0xC000 0xC001 = false ∧ rst.storeReaches 0xC000 0xDFFF = false ∧
    rst.storeReaches 0x0000 0xC000 = false ∧ rst.storeReaches 0xFF40 0xFF45 = false ∧
    rst.storeReaches 0xFF46 0xFDFF = false ∧ rst.storeReaches 0xFF07 0xFF06 = false ∧
    rst.storeReaches 0xFFFF 0xFFFE = false ∧ rst.storeReaches 0xFEA0 0xFE9F = false := by decide

theorem test_hyp_InstructionFrame : (∃ t : State, exec .push_bc rst = .next t) ∧
    storeAddresses .push_bc rst = [0xFFFD, 0xFFFC] ∧
    (storeAddresses .push_bc rst).map (fun a => rst.storeReaches a 0xFFFB) = [false, false] ∧
    (storeAddresses .push_bc rst).map (fun a => rst.storeReaches a 0xFFFE) = [false, false] ∧
    storeAddresses .nop rst = [] :=
  ⟨⟨_, rfl⟩, by decide, by decide, by decide, by decide⟩

theorem test_hyp_JoypadRegister : (∃ k : Fin 8, (0xFF#8).getLsbD k.val = true ∧ (0x7F#8).getLsbD k.val = false) ∧
    ∀ k : Fin 8, (0x7F#8).getLsbD k.val = true → (0xFF#8).getLsbD k.val = true := by decide

/-- A TAC write and a DIV write with a falling edge, with TIMA below 0xFF and at 0xFF; and one without. -/
theorem test_hyp_TimerRegisterWrites : (timed 8 5 0xFE true).timer.prevSignal = true ∧
    (timed 8 5 0xFE true).timer.tima ≠ 0xFF ∧ (timed 8 5 0xFF true).timer.tima = 0xFF ∧
    false = ((0x04#8).getLsbD 2 && (8#16).getLsbD (match (0x04#8).toNat % 4 with | 0 => 9 | 1 => 3 | 2 => 5 | _ => 7)) ∧
    true = ((0x05#8).getLsbD 2 && (8#16).getLsbD (match (0x05#8).toNat % 4 with | 0 => 9 | 1 => 3 | 2 => 5 | _ => 7)) ∧
    rst.params.timerReload = .delayed ∧ (timed 8 0 0x10 false).timer.prevSignal = false := by decide

/-- An enabled timer just below its overflow, and a disabled one. -/
theorem test_hyp_TimerCounts : (timed 0 5 0xFE false).timer.tac.getLsbD 2 = true ∧
    (timed 0 5 0xFE false).timer.prevSignal = (timed 0 5 0xFE false).timer.signal ∧
    (timed 0 5 0xFE false).timer.reloadCountdown = 0 ∧ 0xFE + (0 % 16 + 31) / 16 ≤ 255 ∧
    (timed 0xFFFF 3 0xFF false).timer.tac.getLsbD 2 = false ∧ (timed 0xFFFF 3 0xFF false).timer.prevSignal = false := by
  decide

theorem test_hyp_TimerReload : (timed 0xFFF0 5 0xFF false).timer.counter.toNat % 16 = 0 ∧
    (timed 0xFFF0 5 0xFF false).timer.tac = 5 ∧ (timed 0xFFF0 5 0xFF false).timer.prevSignal = false ∧
    (timed 0xFFF0 5 0xFF false).timer.tima = 0xFF ∧ (timed 0xFFF0 5 0xFF false).timer.reloadCountdown = 0 ∧
    Params.reset.timerReload = .delayed ∧ ({ Params.reset with timerReload := .immediate } : Params).timerReload = .immediate :=
  by decide

/-- The last T-cycle of OAM search, of pixel transfer, of a line and of the frame. -/
theorem test_hyp_ScanlineTick : ∀ p ∈ [ppuAt 0 79 .oamSearch, ppuAt 143 251 .transfer, ppuAt 143 455 .hblank,
    ppuAt 153 455 .vblank, ppuAt 0 0 .oamSearch], p.lcdOn = true ∧ p.enableDelay = 0 ∧ p.cycleCount < 456 ∧
    p.ly.toNat < 154 := by
  intro p h
  simp only [List.mem_cons, List.not_mem_nil, or_false] at h
  rcases h with rfl | rfl | rfl | rfl | rfl <;> exact ⟨by decide, rfl, by decide, by decide⟩

/-- An end of line, and T-cycles within one that end outside mode 3 or began in it. -/
theorem test_hyp_ScanlineTick_window : (ppuAt 143 455 .hblank).cycleCount = 455 ∧ (ppuAt 0 0 .oamSearch).cycleCount < 455 ∧
    ((ppuAt 0 0 .oamSearch).tick ⟨[]⟩ 0).1.mode ≠ .transfer ∧ (ppuAt 0 100 .transfer).mode = .transfer := by decide

theorem test_hyp_FramePosition : (ppuAt 153 455 .vblank).lcdOn = true ∧ (ppuAt 153 455 .vblank).enableDelay = 0 ∧
    (ppuAt 153 455 .vblank).cycleCount < 456 ∧ (ppuAt 153 455 .vblank).ly.toNat < 154 := by decide

theorem test_hyp_PpuInterrupts (params : Params) : (ppuAt 143 455 .hblank).Inv params ∧ (ppuAt 153 455 .vblank).Inv params ∧
    (ppuAt 0 251 .transfer).Inv params ∧ (ppuAt 143 455 .hblank).lcdOn = true ∧ (ppuAt 143 455 .hblank).enableDelay = 0 :=
  ⟨test_ppuAt_coherent _ 143 455 (by decide) (by decide), test_ppuAt_coherent _ 153 455 (by decide) (by decide),
    test_ppuAt_coherent _ 0 251 (by decide) (by decide), by decide, rfl⟩

theorem test_hyp_LcdSwitch : rst.ppu.lcdc.getLsbD 7 = true ∧ (0x11#8).getLsbD 7 = false ∧
    ppuOff.Inv Params.reset ∧ ppuOff.lcdc.getLsbD 7 = false ∧ (0x91#8).getLsbD 7 = true ∧ Params.reset.lcdEnable = .none ∧
    ppuOff.Inv { Params.reset with lcdEnable := .four } ∧ (3 : Nat) < 4 ∧ rst.ppu.lcdc.getLsbD 7 = (0xB1#8).getLsbD 7 ∧
    rst.ppu.lcdc.getLsbD 5 = false ∧ (0xB1#8).getLsbD 5 = true ∧ ppuOff.lcdc.getLsbD 7 = (0x31#8).getLsbD 7 :=
  ⟨by decide, by decide, test_ppuOff_coherent _, by decide, by decide, rfl, test_ppuOff_coherent _, by decide, by decide,
    by decide, by decide, by decide⟩

/-- One sprite of tile 1 at the left edge of line 0, its leftmost pixel of id 1. -/
def oneSprite : Memory := ⟨[(0x8010, 0x80), (0xFE00, 0x10), (0xFE01, 0x08), (0xFE02, 0x01)]⟩

/-- Line 0 with sprites on, and a window from x = 0 on. -/
def spriteLine : Ppu := { ppuAt 0 79 .oamSearch with lcdc := 0xB3, wx := 7 }

/-- Without sprites, and with one whose pixel shows. -/
theorem test_hyp_RenderedLine : (159 : Nat) < 160 ∧ (ppuAt 143 79 .oamSearch).ly.toNat < 144 ∧
    (ppuAt 143 79 .oamSearch).framebuffer.length = 144 ∧ (ppuAt 143 79 .oamSearch).lineSprites oneSprite = [] ∧
    spriteLine.framebuffer.length = 144 ∧
    (spriteLine.lcdc.getLsbD 5 = true ∧ spriteLine.wy.toNat ≤ spriteLine.ly.toNat ∧ spriteLine.wx.toNat ≤ 166) ∧
    spriteLine.lineSprites oneSprite = [] ++ { y := 16, x := 8, tile := 1, attr := 0x00 } :: [] ∧
    BitVec.ofBool ((oneSprite.read (0x8000 + 16 * 1 + 2 * 0 + 1)).getLsbD (7 - 0)) ++
      BitVec.ofBool ((oneSprite.read (0x8000 + 16 * 1 + 2 * 0)).getLsbD (7 - 0)) ≠ 0#2 :=
  ⟨by decide, by decide, test_blankFrame.1, by decide, test_blankFrame.1, by decide, by decide, by decide⟩

theorem test_hyp_LineSprites : (Ppu.reset postBootDmg).lcdc.getLsbD 1 = false ∧
    ({ Ppu.reset postBootDmg with lcdc := 0x93 } : Ppu).lcdc.getLsbD 1 = true ∧
    ((List.range 40).filter (fun i => decide ((elevenSprites.read (0xFE00 + 4 * i)).toNat ≠ 0 ∧
      (elevenSprites.read (0xFE00 + 4 * i)).toNat ≤ 0 + 16 ∧
      0 + 16 < (elevenSprites.read (0xFE00 + 4 * i)).toNat + 8))) = List.range 11 :=
  ⟨by decide, by decide, by decide⟩

/-- The APU after reset, power on. -/
def apu : Apu := Apu.reset postBootDmg

theorem test_hyp_ApuRegisters : apu.power = true ∧ (apu.writeNr52 0x00).power = false ∧ (0x7F#8).getLsbD 7 = false ∧
    (0x80#8).getLsbD 7 = true ∧ 0x13 ∈ [0x13, 0x15, 0x18, 0x1B, 0x1D, 0x1F, 0x20, 0x27, 0x2F] ∧
    0x2F ∈ [0x15, 0x1F, 0x27, 0x2F] ∧
    true = decide ((match Params.reset.dacCheck with
      | .nibble => (0xF0#8).toNat / 16 | .fiveBits => (0xF0#8).toNat / 8) ≠ 0) ∧
    [0xFF10, 0xFF2F, 0xFF30, 0xFF3F].map regionOf = [.io, .io, .io, .io] := by decide

/-- A sweep about to count to 0, in each of the cases of its calculation: too high, unshifted, written back. -/
def sweeping (nr10 : BitVec 7) (counter : Nat) (shadow : BitVec 11) : Apu :=
  { apu with sweep := { nr10 := nr10, counter := counter, shadow := shadow, enabled := true } }

/-- The functions its clauses are given, each as its premises define it, for a write of v. -/
theorem test_hyp_ApuSequencerAndChannels (v : Byte) : apu.power = true ∧
    ({ apu with fsCounter := 8191 } : Apu).fsCounter < 8192 ∧
    ({ apu with fsStep := 7 } : Apu).fsStep < 8 ∧ apu.sweep.nr10 = 0 ∧
    2 ≤ (sweeping 0x11 2 0x400).sweep.counter ∧ (sweeping 0x11 1 0x7FF).sweep.counter = 1 ∧
    (2047 < 0x7FF + 0x7FF / 2 ^ 1 ∧ 0x400 + 0x400 / 2 ^ 1 ≤ 2047 ∧ 0x3FF + 0x3FF / 2 ^ 0 ≤ 2047) ∧
    (∃ len : Bool → Nat → Nat, ∀ en n, len en n = if en then n - 1 else n) ∧
    (∃ live : Bool → Nat → Bool, ∀ en n, live en n = !(en && decide (n = 1))) ∧
    (∃ next : Byte → Envelope → Envelope, ∀ (r : Byte) (e : Envelope),
      (r.toNat % 8 = 0 → next r e = e) ∧
      (r.toNat % 8 ≠ 0 → 2 ≤ e.counter.toNat → next r e = { e with counter := e.counter - 1 }) ∧
      (r.toNat % 8 ≠ 0 → e.counter.toNat < 2 → ∀ vol : Nat,
        vol = (if r.getLsbD 3 then min 15 (e.volume.toNat + 1) else e.volume.toNat - 1) →
        next r e = { counter := r.extractLsb' 0 3, volume := BitVec.ofNat 4 vol })) ∧
    (∃ extra : Bool → Nat → Bool, ∀ was n,
      extra was n = (decide (was = false) && v.getLsbD 6 && decide (apu.fsStep % 2 = 1) && decide (0 < n))) ∧
    (∃ freq : BitVec 11 → BitVec 11, ∀ f, freq f = v.extractLsb' 0 3 ++ f.extractLsb' 0 8) ∧
    (0x40#8).getLsbD 7 = false ∧ (0xC0#8).getLsbD 7 = true ∧ apu.ch1.enabled = true ∧ apu.ch2.enabled = false ∧
    ({ apu.ch1 with timer := 2 } : Pulse).timer = 2 ∧ ({ apu.ch1 with timer := 1 } : Pulse).timer = 1 ∧
    (∃ next : BitVec 15, ∀ k < 15, next.getLsbD k =
      if k = 14 ∨ (k = 6 ∧ apu.ch4.nr43.getLsbD 3 = true) then (apu.ch4.lfsr.getLsbD 0 ^^ apu.ch4.lfsr.getLsbD 1)
      else apu.ch4.lfsr.getLsbD (k + 1)) := by
  refine ⟨by decide, by decide, by decide, by decide, by decide, by decide, by decide, ⟨_, fun _ _ => rfl⟩,
    ⟨_, fun _ _ => rfl⟩, ⟨fun r e => if r.toNat % 8 = 0 then e
      else if 2 ≤ e.counter.toNat then { e with counter := e.counter - 1 }
      else { counter := r.extractLsb' 0 3,
             volume := BitVec.ofNat 4 (if r.getLsbD 3 then min 15 (e.volume.toNat + 1) else e.volume.toNat - 1) },
      fun r e => ⟨fun h => by simp [h], fun h k => by simp [h, k], ?_⟩⟩, ⟨_, fun _ _ => rfl⟩, ⟨_, fun _ => rfl⟩,
    by decide, by decide, rfl, rfl, rfl, rfl, 0x3FFF, by decide⟩
  rintro h k vol rfl
  simp [h, Nat.not_le.mpr k]

/-- The last address of each range a controller decodes. -/
theorem test_hyp_BankRegisters : ([0x1FFF, 0x2FFF, 0x3FFF, 0x5FFF, 0x7FFF] : List Word).map
    (fun a => decide (a.toNat < 0x8000)) = [true, true, true, true, true] := by decide

theorem test_hyp_CartridgeWindows : (0x7FFF#16).toNat < 0x8000 ∧ 0xA000 ≤ (0xA000#16).toNat ∧ (0xBFFF#16).toNat ≤ 0xBFFF ∧
    (cartOf (.mbc1 true 1 3 true) 0x8000).ramOffset 0xBFFF = some 0x7FFF ∧
    (cartOf (.mbc2 true 1) 512).ramOffset 0xBFFF = some 0x1FF ∧
    (cartOf (.mbc3 true 1 3) 0x8000).ramOffset 0xBFFF = some 0x7FFF ∧
    (cartOf (.mbc5 true 1 15) 0x20000).ramOffset 0xBFFF = some 0x1FFFF ∧
    (cartOf .none 0x2000).ramOffset 0xBFFF = some 0x1FFF ∧
    (cartOf Mbc.reset1 0).mbc.kind ≠ 2 ∧ (cartOf Mbc.reset2 512).mbc.kind = 2 ∧
    (cartOf (.mbc3 true 1 8) 0x8000).ramOffset 0xA000 = none ∧ (cartOf (.mbc1 false 1 0 false) 0x8000).ramOffset 0xA000 = none :=
  by decide

theorem test_hyp_ConfigurationKept : ∃ t : State, step { rst with cart := cartOf Mbc.reset3 0x8000 } = .next t := ⟨_, rfl⟩

theorem test_hyp_CoherentKept : rst.Inv ∧ ∃ t : State, step rst = .next t :=
  ⟨⟨rfl, rfl, rfl, by decide, ⟨by decide, by decide⟩, test_ppuAt_coherent _ 0 0 (by decide) (by decide), by decide,
    by decide, trivial⟩, _, rfl⟩

theorem test_hyp_CoherentAtReset : Memory.wf ⟨[(0xC000, 0x01), (0xC001, 0xFF)]⟩ = true ∧
    (cartOf Mbc.reset1 0x20000).rom.wf = true ∧ (cartOf Mbc.reset1 0x20000).xram.wf = true ∧
    (cartOf Mbc.reset1 0x20000).ramSize ≤ 0x20000 ∧ Mbc.reset1.Inv ∧
    0 < Params.reset.sampleRate.samples ∧ 0 < Params.reset.sampleRate.seconds ∧
    postBootDmg.lcdc.getLsbD 7 = true ∧ postBootDmg.ly = 0 ∧ postBootDmg.tac.getLsbD 2 = false ∧
    postBootDmg.nr52.getLsbD 7 = true :=
  ⟨by decide, by decide, by decide, by decide, by simp [Mbc.reset1, Mbc.Inv], by decide, by decide, by decide, by decide,
    by decide, by decide⟩

/-- The shortest MBC1 image: 32 KiB of zeros but for the type byte. -/
def imageMbc1 : List Byte := List.replicate 0x147 0 ++ 1 :: List.replicate 0x7EB8 0

theorem test_hyp_ResetValues : ∃ s : State,
    resetWithImage .immediate Params.reset postBootDmg imageMbc1 ⟨[]⟩ ⟨[]⟩ = .ok s ∧ s.cart.mbc.kind ≠ 0 := by
  have bytes : ∀ n m : Nat, (List.replicate n (0 : Byte) ++ 1 :: List.replicate m 0).getD n 0 = 1 ∧
      (List.replicate n (0 : Byte) ++ 1 :: List.replicate m 0).getD (n + 1) 0 = 0 := by
    intro n m
    simp [List.getElem?_append_right, List.getElem?_replicate]
    split <;> rfl
  have length : imageMbc1.length = 0x8000 := by
    simp only [imageMbc1, List.length_append, List.length_cons, List.length_replicate]
  have type : imageMbc1.getD 0x147 0 = 1 := (bytes 0x147 0x7EB8).1
  have size : imageMbc1.getD 0x148 0 = 0 := (bytes 0x147 0x7EB8).2
  have loaded : ∃ c : Cartridge, loadCartridge imageMbc1 ⟨[]⟩ = .ok c ∧ c.mbc = Mbc.reset1 := by
    simp only [loadCartridge, length, type, size]
    exact ⟨_, rfl, rfl⟩
  obtain ⟨c, load, mbc⟩ := loaded
  exact ⟨State.resetWith Params.reset postBootDmg c ⟨[]⟩, by simp [resetWithImage, load],
    by simp [State.resetWith, mbc, Mbc.reset1, Mbc.kind]⟩
end

/-! # What a step leaves alone

The stores, the meanings and the CPU step, each with the fields it cannot write, said once. -/

namespace Sys2Proof.Machine

/-! ### Stores (20_memory.md R90 to R96) -/

/-- `w` is `s` but for the I/O devices and the byte arrays on the bus. -/
abbrev State.DevicesOnly (s w : State) : Prop :=
  w = { s with iflag := w.iflag, joypSelect := w.joypSelect, timer := w.timer, ppu := w.ppu, apu := w.apu,
               ram := w.ram }

/-- `w` is `s` but for what lies behind the bus: the CPU registers, the hidden CPU state, the host side and the
parameters are those of `s`. -/
abbrev State.BusOnly (s w : State) : Prop :=
  w = { s with ie := w.ie, iflag := w.iflag, joypSelect := w.joypSelect, timer := w.timer, ppu := w.ppu,
               apu := w.apu, cart := w.cart, ram := w.ram }

theorem State.DevicesOnly.busOnly {s w : State} (h : s.DevicesOnly w) : s.BusOnly w := by rw [h]

theorem State.DevicesOnly.cart {s w : State} (h : s.DevicesOnly w) : w.cart = s.cart := by rw [h]

theorem State.dmaBytes_only_ram (v : Byte) (l : List Nat) (s : State) :
    l.foldl (State.dmaByte v) s = { s with ram := (l.foldl (State.dmaByte v) s).ram } := by
  induction l generalizing s with
  | nil => rfl
  | cons i l ih => exact ih (s.dmaByte v i)

theorem State.oamDma_devicesOnly (s : State) (v : Byte) : s.DevicesOnly (s.oamDma v) := by
  unfold State.oamDma State.DevicesOnly
  rw [State.dmaBytes_only_ram]

theorem State.writeOam_devicesOnly (s : State) (a : Nat) (v : Byte) : s.DevicesOnly (s.writeOam a v) := by
  unfold State.writeOam; split <;> rfl

theorem State.ioWrite_devicesOnly (s : State) (reg : Nat) (v : Byte) : s.DevicesOnly (s.ioWrite reg v) := by
  unfold State.ioWrite
  split
  case h_12 => exact s.oamDma_devicesOnly v
  case h_18 =>
    split
    · rfl
    · split <;> rfl
  all_goals rfl

theorem State.memWrite_busOnly (s : State) (a : Word) (v : Byte) : s.BusOnly (s.memWrite a v) := by
  simp only [State.memWrite]
  split
  case h_2 => split <;> rfl
  case h_6 => exact (s.writeOam_devicesOnly _ v).busOnly
  case h_8 => exact (s.ioWrite_devicesOnly _ v).busOnly
  all_goals rfl

/-- A store reaches the cartridge through its two windows only. -/
theorem State.memWrite_cart (s : State) (a : Word) (v : Byte) :
    (s.memWrite a v).cart = s.cart ∨ (s.memWrite a v).cart = s.cart.writeControl a.toNat v ∨
      (s.memWrite a v).cart = s.cart.writeRam a.toNat v := by
  simp only [State.memWrite]
  split
  case h_1 => exact .inr (.inl rfl)
  case h_2 => split <;> exact .inl rfl
  case h_3 => exact .inr (.inr rfl)
  case h_6 => exact .inl (s.writeOam_devicesOnly _ v).cart
  case h_8 => exact .inl (s.ioWrite_devicesOnly _ v).cart
  all_goals exact .inl rfl

/-! ### The hidden state (10_state.md R38 to R40), the host side and the configuration -/

/-- The hidden CPU state. -/
structure Hidden where
  ime            : Bool
  eiDelayPending : Bool
  halted         : Bool
  haltBugActive  : Bool

/-- The hidden CPU state of `s`. -/
def State.hidden (s : State) : Hidden :=
  { ime := s.ime, eiDelayPending := s.eiDelayPending, halted := s.halted, haltBugActive := s.haltBugActive }

/-- What no instruction changes: the step count, the host's input and its sample stream, the parameters. -/
structure HostSide where
  stepCount  : Nat
  buttons    : Byte
  inputQueue : List Byte
  audio      : Audio
  params     : Params

/-- The host side of `s`. -/
def State.hostSide (s : State) : HostSide :=
  { stepCount := s.stepCount, buttons := s.buttons, inputQueue := s.inputQueue, audio := s.audio, params := s.params }

/-- What no step changes of the cartridge: all but its RAM's bytes and its controller's registers (10_state.md R48). -/
structure CartConfig where
  rom     : Memory
  romSize : Nat
  ramSize : Nat
  battery : Bool
  kind    : Nat

/-- The configuration of the cartridge of `s`. -/
def State.cartConfig (s : State) : CartConfig :=
  { rom := s.cart.rom, romSize := s.cart.romSize, ramSize := s.cart.ramSize, battery := s.cart.battery,
    kind := s.cart.mbc.kind }

theorem Mbc.writeControl_kind (m : Mbc) (a : Nat) (v : Byte) : (m.writeControl a v).kind = m.kind := by
  unfold Mbc.writeControl
  repeat' split
  all_goals rfl

theorem State.memWrite_hidden (s : State) (a : Word) (v : Byte) : (s.memWrite a v).hidden = s.hidden := by
  rw [s.memWrite_busOnly a v]; rfl

theorem State.memWrite_hostSide (s : State) (a : Word) (v : Byte) : (s.memWrite a v).hostSide = s.hostSide := by
  rw [s.memWrite_busOnly a v]; rfl

theorem State.memWrite_cartConfig (s : State) (a : Word) (v : Byte) : (s.memWrite a v).cartConfig = s.cartConfig := by
  unfold State.cartConfig
  obtain h | h | h := s.memWrite_cart a v <;> rw [h]
  · rw [Cartridge.writeControl, Mbc.writeControl_kind]
  · unfold Cartridge.writeRam; split <;> rfl

end Sys2Proof.Machine

/-! # The CPU step and the system step (60_exceptions.md R400 to R403), taken apart -/

namespace Sys2Proof.Machine

/-- The instruction that `u` fetches runs and ends the step. -/
theorem runInstruction_cases {u t : State} (h : runInstruction u = .next t) :
    ∃ e : State, exec u.fetched u.afterFetch = .next e ∧ t = (u.charge e).endOfStep u.eiDelayPending := by
  unfold runInstruction at h
  split at h
  case h_1 e he => exact ⟨e, he, by cases h; rfl⟩
  all_goals cases h

/-- The three courses of a CPU step: it stays halted, it dispatches out of the halt, or an instruction runs. -/
theorem cpuStep_cases {s t : State} (h : cpuStep s = .next t) :
    (s.halted = true ∧ firstInterrupt s.pending = none ∧ t = { s with stepCount := s.stepCount + 1, tcycles := 4 }) ∨
    (∃ i : Interrupt, s.halted = true ∧ s.ime = true ∧ firstInterrupt s.pending = some i ∧
      t = { State.dispatch { s with stepCount := s.stepCount + 1, halted := false } i with tcycles := 20 }) ∨
    runInstruction { s with stepCount := s.stepCount + 1, halted := false } = .next t := by
  unfold cpuStep at h
  split at h
  case isFalse running =>
    have same : { s with stepCount := s.stepCount + 1, halted := false } = s.countStep := by
      simp [State.countStep, running]
    rw [same]
    exact .inr (.inr h)
  case isTrue halted =>
    unfold haltedStep at h
    split at h
    case h_1 none => cases h; exact .inl ⟨halted, none, rfl⟩
    case h_2 i some =>
      split at h
      case isTrue ime => cases h; exact .inr (.inl ⟨i, halted, ime, some, rfl⟩)
      case isFalse => exact .inr (.inr h)

/-- The end-of-step check does nothing, or dispatches one interrupt for 20 T-cycles more. -/
theorem State.serviceInterrupt_cases (s : State) :
    s.serviceInterrupt = s ∨ ∃ i : Interrupt, s.serviceInterrupt = { s.dispatch i with tcycles := s.tcycles + 20 } := by
  unfold State.serviceInterrupt
  repeat' split
  · exact .inl rfl
  · exact .inr ⟨_, rfl⟩
  · exact .inl rfl

/-- A system step is a CPU step on the state with its input applied, then the devices' advance. -/
theorem step_cases {s t : State} (h : step s = .next t) :
    ∃ e : State, cpuStep s.applyInputs = .next e ∧ t = e.advanceDevices e.tcycles := by
  unfold step at h
  split at h
  case h_1 e he => exact ⟨e, he, by cases h; rfl⟩
  all_goals cases h

theorem State.foldl_applyInput_only (l : List Byte) (s : State) :
    l.foldl State.applyInput s =
      { s with buttons := (l.foldl State.applyInput s).buttons, iflag := (l.foldl State.applyInput s).iflag } := by
  induction l generalizing s with
  | nil => rfl
  | cons b l ih => exact ih (s.applyInput b)

/-- Applying the queued input writes the buttons, IF and the queue, and nothing else. -/
theorem State.applyInputs_only (s : State) :
    s.applyInputs = { s with buttons := s.applyInputs.buttons, iflag := s.applyInputs.iflag, inputQueue := [] } := by
  unfold State.applyInputs
  rw [State.foldl_applyInput_only]

/-! ### What no CPU step reaches -/

/-- `f` reads nothing that a CPU-only update, a store or a write of IF changes. -/
structure Untouched {α : Type} (f : State → α) : Prop where
  cpu   : ∀ {t u : State}, t.SameBus u → f u = f t
  store : ∀ (t : State) (a : Word) (v : Byte), f (t.memWrite a v) = f t
  iflag : ∀ (t : State) (b : BitVec 5), f { t with iflag := b } = f t

theorem untouched_hostSide : Untouched State.hostSide where
  cpu e := by rw [e]; rfl
  store := State.memWrite_hostSide
  iflag _ _ := rfl

theorem untouched_cartConfig : Untouched State.cartConfig where
  cpu e := by rw [e]; rfl
  store := State.memWrite_cartConfig
  iflag _ _ := rfl

section
variable {α : Type} {f : State → α} (hf : Untouched f)
include hf

theorem Untouched.path {s t : State} (p : CpuPath s t) : f t = f s :=
  p.keeps (P := fun u => f u = f s) rfl (fun _ _ e h => (hf.cpu e).trans h) (fun t a v h => (hf.store t a v).trans h)

theorem Untouched.exec {i : Instr} {s t : State} (h : exec i s = .next t) : f t = f s := hf.path (exec_path h)

theorem Untouched.dispatch (s : State) (i : Interrupt) : f (s.dispatch i) = f s :=
  calc f (s.dispatch i)
    _ = f { s.push16 s.pc with iflag := (s.push16 s.pc).iflag &&& ~~~i.mask } := hf.cpu rfl
    _ = f (s.push16 s.pc) := hf.iflag ..
    _ = f s := hf.path (push16_path s s.pc)

theorem Untouched.charge (s t : State) : f (s.charge t) = f t := by
  rw [State.charge_only_tcycles]; exact hf.cpu rfl

theorem Untouched.promoteEi (s : State) (p : Bool) : f (s.promoteEi p) = f s := by
  unfold State.promoteEi
  split
  · exact hf.cpu rfl
  · rfl

theorem Untouched.serviceInterrupt (s : State) : f s.serviceInterrupt = f s := by
  obtain h | ⟨i, h⟩ := s.serviceInterrupt_cases <;> rw [h]
  calc f { s.dispatch i with tcycles := s.tcycles + 20 }
    _ = f (s.dispatch i) := hf.cpu rfl
    _ = f s := hf.dispatch s i

theorem Untouched.runInstruction {u t : State} (h : runInstruction u = .next t) : f t = f u := by
  obtain ⟨e, he, rfl⟩ := runInstruction_cases h
  calc f ((u.charge e).endOfStep u.eiDelayPending)
    _ = f ((u.charge e).promoteEi u.eiDelayPending) := hf.serviceInterrupt _
    _ = f (u.charge e) := hf.promoteEi ..
    _ = f e := hf.charge u e
    _ = f u.afterFetch := hf.exec he
    _ = f u := hf.cpu rfl

/-- A CPU step changes `f` only in counting itself. -/
theorem Untouched.cpuStep {s t : State} (h : cpuStep s = .next t) : f t = f s.countStep := by
  obtain ⟨-, -, rfl⟩ | ⟨i, -, -, -, rfl⟩ | h := cpuStep_cases h
  · exact hf.cpu rfl
  · calc f { State.dispatch { s with stepCount := s.stepCount + 1, halted := false } i with tcycles := 20 }
      _ = f (State.dispatch { s with stepCount := s.stepCount + 1, halted := false } i) := hf.cpu rfl
      _ = f { s with stepCount := s.stepCount + 1, halted := false } := hf.dispatch _ i
      _ = f s.countStep := hf.cpu rfl
  · calc f t
      _ = f { s with stepCount := s.stepCount + 1, halted := false } := hf.runInstruction h
      _ = f s.countStep := hf.cpu rfl

end

/-- The CPU step of a system step counts itself and leaves the sample stream, the parameters and the cartridge's
configuration. -/
theorem cpuStep_applyInputs_keeps {s e : State} (h : cpuStep s.applyInputs = .next e) :
    e.stepCount = s.stepCount + 1 ∧ e.audio = s.audio ∧ e.params = s.params ∧ e.cartConfig = s.cartConfig := by
  have host := untouched_hostSide.cpuStep h
  have cart := untouched_cartConfig.cpuStep h
  simp only [State.hostSide, HostSide.mk.injEq] at host
  simp only [State.cartConfig] at cart ⊢
  rw [State.applyInputs_only] at host cart
  obtain ⟨count, -, -, audio, params⟩ := host
  exact ⟨count, audio, params, cart⟩

/-- Settles O57: neither the CPU step nor the devices' advance reaches the configuration. -/
theorem configurationKept : Obligations.ConfigurationKept := by
  unfold Obligations.ConfigurationKept
  intro s t h
  obtain ⟨e, he, rfl⟩ := step_cases h
  obtain ⟨-, -, params, cart⟩ := cpuStep_applyInputs_keeps he
  simp only [State.cartConfig, CartConfig.mk.injEq] at cart
  obtain ⟨rom, romSize, ramSize, battery, kind⟩ := cart
  exact ⟨rom, romSize, ramSize, battery, kind, params⟩

end Sys2Proof.Machine

/-! # How a meaning ends: the hidden state (10_state.md R38 to R40, 60_exceptions.md R430) and its T-cycles -/

namespace Sys2Proof.Machine

/-- The T-cycles an instruction can take (70_reset_and_hazards.md R620). -/
abbrev LegalCount (n : Nat) : Prop := n % 4 = 0 ∧ 4 ≤ n ∧ n ≤ 24

/-- The answer is a next state with the given hidden state, after a legal number of T-cycles. -/
def EndsWith (a : Answer) (hidden : Hidden) : Prop :=
  ∃ t : State, a = .next t ∧ t.hidden = hidden ∧ LegalCount t.tcycles

/-- The hidden state an instruction leaves: written by DI, EI, RETI, STOP and HALT alone (46_misc.md R336 to R342). -/
def hiddenAfter (i : Instr) (s : State) : Hidden :=
  match i with
  | .di => { s.hidden with ime := false, eiDelayPending := false }
  | .ei => { s.hidden with eiDelayPending := true }
  | .reti => { s.hidden with ime := true }
  | .stop _ => { s.hidden with halted := true }
  | .halt =>
    if s.ime = true ∨ s.pending = 0 then { s.hidden with halted := true } else { s.hidden with haltBugActive := true }
  | _ => s.hidden

theorem Src8.cycles_legal (src : Src8) : LegalCount src.cycles := by cases src <;> simp [LegalCount, Src8.cycles]
theorem Target.cycles_legal (t : Target) : LegalCount t.cycles := by cases t <;> simp [LegalCount, Target.cycles]
theorem Target.bitCycles_legal (t : Target) : LegalCount t.bitCycles := by
  cases t <;> simp [LegalCount, Target.bitCycles]

/-! ### The operations that write state keep the hidden state -/

section
variable (s : State)

theorem State.setPair_hidden (p : Pair) (v : Word) : (s.setPair p v).hidden = s.hidden := by cases p <;> rfl

theorem State.setStackPair_hidden (p : StackPair) (v : Word) : (s.setStackPair p v).hidden = s.hidden := by
  cases p <;> rfl

theorem State.pushByte_hidden (v : Byte) : (s.pushByte v).hidden = s.hidden := State.memWrite_hidden _ _ v

theorem State.push16_hidden (v : Word) : (s.push16 v).hidden = s.hidden :=
  (State.pushByte_hidden _ _).trans (s.pushByte_hidden _)

theorem State.call_hidden (a : Word) : (s.call a).hidden = s.hidden := s.push16_hidden s.pc

theorem State.memWrite16_hidden (a v : Word) : (s.memWrite16 a v).hidden = s.hidden :=
  (State.memWrite_hidden _ _ _).trans (s.memWrite_hidden _ _)

theorem Target.set_hidden (t : Target) (v : Byte) : (t.set s v).hidden = s.hidden := by
  cases t
  · rfl
  · exact s.memWrite_hidden _ v

/-! ### One line per shared operation -/

theorem finish_ends {n : Nat} {u : State} {hidden : Hidden} (hn : LegalCount n) (hu : u.hidden = hidden) :
    EndsWith (finish n u) hidden := ⟨_, rfl, hu, hn⟩

theorem loadReg_ends (dst src : Reg8) : EndsWith (loadReg dst src s) s.hidden := finish_ends (by decide) rfl
theorem loadImm_ends (dst : Reg8) (n : Byte) : EndsWith (loadImm dst n s) s.hidden := finish_ends (by decide) rfl
theorem loadAtHl_ends (dst : Reg8) : EndsWith (loadAtHl dst s) s.hidden := finish_ends (by decide) rfl
theorem storeAtHl_ends (r : Reg8) : EndsWith (storeAtHl r s) s.hidden :=
  finish_ends (by decide) (s.memWrite_hidden _ _)
theorem loadA_ends {n : Nat} (hn : LegalCount n) (a : Word) : EndsWith (loadA n a s) s.hidden := finish_ends hn rfl
theorem storeA_ends {n : Nat} (hn : LegalCount n) (a : Word) : EndsWith (storeA n a s) s.hidden :=
  finish_ends hn (s.memWrite_hidden _ _)
theorem storeAMove_ends (m : Word) : EndsWith (storeAMove m s) s.hidden :=
  finish_ends (by decide) (s.memWrite_hidden s.hl (s.getR .a))
theorem loadAMove_ends (m : Word) : EndsWith (loadAMove m s) s.hidden := finish_ends (by decide) rfl
theorem loadPair_ends (p : Pair) (nn : Word) : EndsWith (loadPair p nn s) s.hidden :=
  finish_ends (by decide) (s.setPair_hidden p nn)
theorem pushPair_ends (p : StackPair) : EndsWith (pushPair p s) s.hidden :=
  finish_ends (by decide) (s.push16_hidden _)
theorem popPair_ends (p : StackPair) : EndsWith (popPair p s) s.hidden :=
  finish_ends (by decide) (s.popped.setStackPair_hidden p _)
theorem aluA_ends (op : AluOp) (src : Src8) : EndsWith (aluA op src s) s.hidden := finish_ends src.cycles_legal rfl
theorem incReg_ends (r : Reg8) : EndsWith (incReg r s) s.hidden := finish_ends (by decide) rfl
theorem decReg_ends (r : Reg8) : EndsWith (decReg r s) s.hidden := finish_ends (by decide) rfl
theorem modifyAtHl_ends {n : Nat} (hn : LegalCount n) (o : Out8) : EndsWith (modifyAtHl n o s) s.hidden :=
  finish_ends hn (s.memWrite_hidden s.hl o.value)
theorem addPair_ends (p : Pair) : EndsWith (addPair p s) s.hidden := finish_ends (by decide) rfl
theorem incPair_ends (p : Pair) : EndsWith (incPair p s) s.hidden := finish_ends (by decide) (s.setPair_hidden p _)
theorem decPair_ends (p : Pair) : EndsWith (decPair p s) s.hidden := finish_ends (by decide) (s.setPair_hidden p _)
theorem rotateA_ends (op : RotOp) : EndsWith (rotateA op s) s.hidden := finish_ends (by decide) rfl
theorem jumpIf_ends (cc : Cond) (nn : Word) : EndsWith (jumpIf cc nn s) s.hidden := by
  unfold jumpIf; split <;> exact finish_ends (by decide) rfl
theorem jumpRelIf_ends (cc : Cond) (e : Byte) : EndsWith (jumpRelIf cc e s) s.hidden := by
  unfold jumpRelIf; split <;> exact finish_ends (by decide) rfl
theorem callIf_ends (cc : Cond) (nn : Word) : EndsWith (callIf cc nn s) s.hidden := by
  unfold callIf; split
  · exact finish_ends (by decide) (s.call_hidden nn)
  · exact finish_ends (by decide) rfl
theorem returnIf_ends (cc : Cond) : EndsWith (returnIf cc s) s.hidden := by
  unfold returnIf; split <;> exact finish_ends (by decide) rfl
theorem restart_ends (a : Word) : EndsWith (restart a s) s.hidden := finish_ends (by decide) (s.call_hidden a)
theorem noOperation_ends : EndsWith (noOperation s) s.hidden := finish_ends (by decide) rfl
theorem rotateTarget_ends (op : RotOp) (g : Target) : EndsWith (rotateTarget op g s) s.hidden :=
  finish_ends g.cycles_legal (g.set_hidden s (op.apply (g.get s) s.flags).value)
theorem bitTest_ends (b : Nat) (g : Target) : EndsWith (bitTest b g s) s.hidden := finish_ends g.bitCycles_legal rfl
theorem bitReset_ends (b : Nat) (g : Target) : EndsWith (bitReset b g s) s.hidden :=
  finish_ends g.cycles_legal (g.set_hidden s _)
theorem bitSet_ends (b : Nat) (g : Target) : EndsWith (bitSet b g s) s.hidden :=
  finish_ends g.cycles_legal (g.set_hidden s _)
theorem cbEntry_ends (c : Byte) : EndsWith (cbEntry c s) s.hidden := by
  unfold cbEntry
  dsimp only
  split
  · exact rotateTarget_ends ..
  · exact bitTest_ends ..
  · exact bitReset_ends ..
  · exact bitSet_ends ..
theorem exec_halt_ends : EndsWith (exec_halt s) (hiddenAfter .halt s) := by
  simp only [exec_halt, hiddenAfter]
  by_cases ime : s.ime = true
  · rw [if_pos ime, if_pos (.inl ime)]; exact finish_ends (by decide) rfl
  · by_cases pending : s.pending = 0
    · rw [if_neg ime, if_pos pending, if_pos (.inr pending)]; exact finish_ends (by decide) rfl
    · rw [if_neg ime, if_neg pending, if_neg (not_or.mpr ⟨ime, pending⟩)]; exact finish_ends (by decide) rfl

/-- Every instruction answers a next state, with the hidden state that is its own to leave. -/
theorem exec_ends (i : Instr) : EndsWith (exec i s) (hiddenAfter i s) := by
  cases i with
  | ld_bc_nn _ | ld_de_nn _ | ld_hl_nn _ | ld_sp_nn _ => exact loadPair_ends ..
  | ld_b_n _ | ld_c_n _ | ld_d_n _ | ld_e_n _ | ld_h_n _ | ld_l_n _ | ld_a_n _ => exact loadImm_ends ..
  | jr_nz_e _ | jr_z_e _ | jr_nc_e _ | jr_c_e _ => exact jumpRelIf_ends ..
  | jp_nz_nn _ | jp_z_nn _ | jp_nc_nn _ | jp_c_nn _ => exact jumpIf_ends ..
  | call_nz_nn _ | call_z_nn _ | call_nc_nn _ | call_c_nn _ => exact callIf_ends ..
  | add_a_n _ | adc_a_n _ | sub_n _ | sbc_a_n _ | and_n _ | xor_n _ | or_n _ | cp_n _ | add_a_b | add_a_c | add_a_d
  | add_a_e | add_a_h | add_a_l | add_a_atHl | add_a_a | adc_a_b | adc_a_c | adc_a_d | adc_a_e | adc_a_h | adc_a_l
  | adc_a_atHl | adc_a_a | sub_b | sub_c | sub_d | sub_e | sub_h | sub_l | sub_atHl | sub_a | sbc_a_b | sbc_a_c
  | sbc_a_d | sbc_a_e | sbc_a_h | sbc_a_l | sbc_a_atHl | sbc_a_a | and_b | and_c | and_d | and_e | and_h | and_l
  | and_atHl | and_a | xor_b | xor_c | xor_d | xor_e | xor_h | xor_l | xor_atHl | xor_a | or_b | or_c | or_d | or_e
  | or_h | or_l | or_atHl | or_a | cp_b | cp_c | cp_d | cp_e | cp_h | cp_l | cp_atHl | cp_a => exact aluA_ends ..
  | prefix_cb _ => exact cbEntry_ends ..
  | ldh_atN_a _ | ld_atNn_a _ | ld_atBc_a | ld_atDe_a | ld_atC_a => exact storeA_ends s (by decide) _
  | ldh_a_atN _ | ld_a_atNn _ | ld_a_atBc | ld_a_atDe | ld_a_atC => exact loadA_ends s (by decide) _
  | nop | illegal_d3 | illegal_db | illegal_dd | illegal_e3 | illegal_e4 | illegal_eb | illegal_ec | illegal_ed
  | illegal_f4 | illegal_fc | illegal_fd => exact noOperation_ends ..
  | inc_bc | inc_de | inc_hl | inc_sp => exact incPair_ends ..
  | inc_b | inc_c | inc_d | inc_e | inc_h | inc_l | inc_a => exact incReg_ends ..
  | dec_b | dec_c | dec_d | dec_e | dec_h | dec_l | dec_a => exact decReg_ends ..
  | rlca | rrca | rla | rra => exact rotateA_ends ..
  | add_hl_bc | add_hl_de | add_hl_hl | add_hl_sp => exact addPair_ends ..
  | dec_bc | dec_de | dec_hl | dec_sp => exact decPair_ends ..
  | ld_atHlInc_a | ld_atHlDec_a => exact storeAMove_ends ..
  | ld_a_atHlInc | ld_a_atHlDec => exact loadAMove_ends ..
  | inc_atHl | dec_atHl => exact modifyAtHl_ends s (by decide) _
  | ld_b_b | ld_b_c | ld_b_d | ld_b_e | ld_b_h | ld_b_l | ld_b_a | ld_c_b | ld_c_c | ld_c_d | ld_c_e | ld_c_h
  | ld_c_l | ld_c_a | ld_d_b | ld_d_c | ld_d_d | ld_d_e | ld_d_h | ld_d_l | ld_d_a | ld_e_b | ld_e_c | ld_e_d
  | ld_e_e | ld_e_h | ld_e_l | ld_e_a | ld_h_b | ld_h_c | ld_h_d | ld_h_e | ld_h_h | ld_h_l | ld_h_a | ld_l_b
  | ld_l_c | ld_l_d | ld_l_e | ld_l_h | ld_l_l | ld_l_a | ld_a_b | ld_a_c | ld_a_d | ld_a_e | ld_a_h | ld_a_l
  | ld_a_a => exact loadReg_ends ..
  | ld_b_atHl | ld_c_atHl | ld_d_atHl | ld_e_atHl | ld_h_atHl | ld_l_atHl | ld_a_atHl => exact loadAtHl_ends ..
  | ld_atHl_b | ld_atHl_c | ld_atHl_d | ld_atHl_e | ld_atHl_h | ld_atHl_l | ld_atHl_a => exact storeAtHl_ends ..
  | halt => exact exec_halt_ends s
  | ret_nz | ret_z | ret_nc | ret_c => exact returnIf_ends ..
  | pop_bc | pop_de | pop_hl | pop_af => exact popPair_ends ..
  | push_bc | push_de | push_hl | push_af => exact pushPair_ends ..
  | rst_00 | rst_08 | rst_10 | rst_18 | rst_20 | rst_28 | rst_30 | rst_38 => exact restart_ends ..
  | rlc_b | rlc_c | rlc_d | rlc_e | rlc_h | rlc_l | rlc_atHl | rlc_a | rrc_b | rrc_c | rrc_d | rrc_e | rrc_h | rrc_l
  | rrc_atHl | rrc_a | rl_b | rl_c | rl_d | rl_e | rl_h | rl_l | rl_atHl | rl_a | rr_b | rr_c | rr_d | rr_e | rr_h
  | rr_l | rr_atHl | rr_a | sla_b | sla_c | sla_d | sla_e | sla_h | sla_l | sla_atHl | sla_a | sra_b | sra_c | sra_d
  | sra_e | sra_h | sra_l | sra_atHl | sra_a | swap_b | swap_c | swap_d | swap_e | swap_h | swap_l | swap_atHl
  | swap_a | srl_b | srl_c | srl_d | srl_e | srl_h | srl_l | srl_atHl | srl_a => exact rotateTarget_ends ..
  | bit_0_b | bit_0_c | bit_0_d | bit_0_e | bit_0_h | bit_0_l | bit_0_atHl | bit_0_a | bit_1_b | bit_1_c | bit_1_d
  | bit_1_e | bit_1_h | bit_1_l | bit_1_atHl | bit_1_a | bit_2_b | bit_2_c | bit_2_d | bit_2_e | bit_2_h | bit_2_l
  | bit_2_atHl | bit_2_a | bit_3_b | bit_3_c | bit_3_d | bit_3_e | bit_3_h | bit_3_l | bit_3_atHl | bit_3_a
  | bit_4_b | bit_4_c | bit_4_d | bit_4_e | bit_4_h | bit_4_l | bit_4_atHl | bit_4_a | bit_5_b | bit_5_c | bit_5_d
  | bit_5_e | bit_5_h | bit_5_l | bit_5_atHl | bit_5_a | bit_6_b | bit_6_c | bit_6_d | bit_6_e | bit_6_h | bit_6_l
  | bit_6_atHl | bit_6_a | bit_7_b | bit_7_c | bit_7_d | bit_7_e | bit_7_h | bit_7_l | bit_7_atHl | bit_7_a =>
    exact bitTest_ends ..
  | res_0_b | res_0_c | res_0_d | res_0_e | res_0_h | res_0_l | res_0_atHl | res_0_a | res_1_b | res_1_c | res_1_d
  | res_1_e | res_1_h | res_1_l | res_1_atHl | res_1_a | res_2_b | res_2_c | res_2_d | res_2_e | res_2_h | res_2_l
  | res_2_atHl | res_2_a | res_3_b | res_3_c | res_3_d | res_3_e | res_3_h | res_3_l | res_3_atHl | res_3_a
  | res_4_b | res_4_c | res_4_d | res_4_e | res_4_h | res_4_l | res_4_atHl | res_4_a | res_5_b | res_5_c | res_5_d
  | res_5_e | res_5_h | res_5_l | res_5_atHl | res_5_a | res_6_b | res_6_c | res_6_d | res_6_e | res_6_h | res_6_l
  | res_6_atHl | res_6_a | res_7_b | res_7_c | res_7_d | res_7_e | res_7_h | res_7_l | res_7_atHl | res_7_a =>
    exact bitReset_ends ..
  | set_0_b | set_0_c | set_0_d | set_0_e | set_0_h | set_0_l | set_0_atHl | set_0_a | set_1_b | set_1_c | set_1_d
  | set_1_e | set_1_h | set_1_l | set_1_atHl | set_1_a | set_2_b | set_2_c | set_2_d | set_2_e | set_2_h | set_2_l
  | set_2_atHl | set_2_a | set_3_b | set_3_c | set_3_d | set_3_e | set_3_h | set_3_l | set_3_atHl | set_3_a
  | set_4_b | set_4_c | set_4_d | set_4_e | set_4_h | set_4_l | set_4_atHl | set_4_a | set_5_b | set_5_c | set_5_d
  | set_5_e | set_5_h | set_5_l | set_5_atHl | set_5_a | set_6_b | set_6_c | set_6_d | set_6_e | set_6_h | set_6_l
  | set_6_atHl | set_6_a | set_7_b | set_7_c | set_7_d | set_7_e | set_7_h | set_7_l | set_7_atHl | set_7_a =>
    exact bitSet_ends ..
  | stop _ | jr_e _ | jp_nn _ | add_sp_e _ | ld_hl_spE _ | daa | cpl | scf | ccf | ret | reti | jp_hl | di
  | ld_sp_hl | ei => exact finish_ends (by decide) rfl
  | ld_atNn_sp _ => exact finish_ends (by decide) (s.memWrite16_hidden ..)
  | ld_atHl_n _ => exact finish_ends (by decide) (s.memWrite_hidden ..)
  | call_nn _ => exact finish_ends (by decide) (s.call_hidden _)

end

theorem exec_hidden {i : Instr} {s t : State} (h : exec i s = .next t) : t.hidden = hiddenAfter i s := by
  obtain ⟨u, hu, hidden, -⟩ := exec_ends s i
  cases hu.symm.trans h
  exact hidden

theorem exec_legalCount {i : Instr} {s t : State} (h : exec i s = .next t) : LegalCount t.tcycles := by
  obtain ⟨u, hu, -, count⟩ := exec_ends s i
  cases hu.symm.trans h
  exact count

/-! ### Which instructions write which part of the hidden state -/

theorem hiddenAfter_ime {i : Instr} (s : State) (hd : i ≠ .di) (hr : i ≠ .reti) : (hiddenAfter i s).ime = s.ime := by
  unfold hiddenAfter
  split
  case h_1 => exact absurd rfl hd
  case h_3 => exact absurd rfl hr
  case h_5 => split <;> rfl
  all_goals rfl

theorem hiddenAfter_eiDelayPending {i : Instr} (s : State) (he : i ≠ .ei) (hd : i ≠ .di) :
    (hiddenAfter i s).eiDelayPending = s.eiDelayPending := by
  unfold hiddenAfter
  split
  case h_1 => exact absurd rfl hd
  case h_2 => exact absurd rfl he
  case h_5 => split <;> rfl
  all_goals rfl

theorem hiddenAfter_halted {i : Instr} (s : State) (hh : i ≠ .halt) (hs : ∀ pad : Byte, i ≠ .stop pad) :
    (hiddenAfter i s).halted = s.halted := by
  unfold hiddenAfter
  split
  case h_4 pad => exact absurd rfl (hs pad)
  case h_5 => exact absurd rfl hh
  all_goals rfl

theorem hiddenAfter_haltBugActive {i : Instr} (s : State) (hh : i ≠ .halt) :
    (hiddenAfter i s).haltBugActive = s.haltBugActive := by
  unfold hiddenAfter
  split
  case h_5 => exact absurd rfl hh
  all_goals rfl

/-- Settles O12: the hidden state by the instruction, the host side because no store reaches it. -/
theorem hiddenStateFrame : Obligations.HiddenStateFrame := by
  unfold Obligations.HiddenStateFrame
  intro i s t h
  have hidden := exec_hidden h
  have host := untouched_hostSide.exec h
  simp only [State.hostSide, HostSide.mk.injEq] at host
  exact ⟨fun hd hr => (congrArg Hidden.ime hidden).trans (hiddenAfter_ime s hd hr),
    fun he hd => (congrArg Hidden.eiDelayPending hidden).trans (hiddenAfter_eiDelayPending s he hd),
    fun hh hs => (congrArg Hidden.halted hidden).trans (hiddenAfter_halted s hh hs),
    fun hh => (congrArg Hidden.haltBugActive hidden).trans (hiddenAfter_haltBugActive s hh),
    host⟩

end Sys2Proof.Machine

/-! # What a step counts (10_state.md R47, 60_exceptions.md R404), its samples (63_apu.md R564) and the HALT bug -/

namespace Sys2Proof.Machine

/-! ### T-cycles under the table of 70_reset_and_hazards.md R620 -/

theorem State.promoteEi_tcycles (s : State) (p : Bool) : (s.promoteEi p).tcycles = s.tcycles := by
  unfold State.promoteEi; split <;> rfl

/-- The end of a step adds nothing, or the 20 T-cycles of a dispatch. -/
theorem State.endOfStep_tcycles (s : State) (p : Bool) :
    (s.endOfStep p).tcycles = s.tcycles ∨ (s.endOfStep p).tcycles = s.tcycles + 20 := by
  unfold State.endOfStep
  obtain h | ⟨i, h⟩ := (s.promoteEi p).serviceInterrupt_cases <;> rw [h]
  · exact .inl (s.promoteEi_tcycles p)
  · exact .inr (congrArg (· + 20) (s.promoteEi_tcycles p))

/-- An instruction takes up to 24 T-cycles, and a dispatch after it 20. -/
theorem runInstruction_tcycles {u t : State} (h : runInstruction u = .next t) (table : u.params.cycleTable = none) :
    t.tcycles % 4 = 0 ∧ 4 ≤ t.tcycles ∧ t.tcycles ≤ 44 := by
  obtain ⟨e, he, rfl⟩ := runInstruction_cases h
  rw [State.charge_standard table]
  obtain ⟨multiple, low, high⟩ := exec_legalCount he
  obtain h | h := e.endOfStep_tcycles u.eiDelayPending <;> rw [h] <;> omega

theorem cpuStep_tcycles {s t : State} (h : cpuStep s = .next t) (table : s.params.cycleTable = none) :
    t.tcycles % 4 = 0 ∧ 4 ≤ t.tcycles ∧ t.tcycles ≤ 44 := by
  obtain ⟨-, -, rfl⟩ | ⟨i, -, -, -, rfl⟩ | h := cpuStep_cases h
  · simp
  · simp
  · exact runInstruction_tcycles h table

theorem State.advanceDevices_tcycles (s : State) (n : Nat) : (s.advanceDevices n).tcycles = s.tcycles := rfl

/-! ### Samples -/

theorem interleave_eq_flatten (l : List (Int × Int)) : interleave l = (l.map (fun x => [x.1, x.2])).flatten := by
  induction l with
  | nil => rfl
  | cons x l ih => simp [interleave, ih]

/-- `take_samples` drains the first `n` samples, or all there are. -/
theorem State.takeSamples_of_append (s : State) {n : Nat} {first rest : List (Int × Int)}
    (h : s.audio.samples = first ++ rest) (hn : first.length = n ∨ (first.length ≤ n ∧ rest = [])) :
    s.takeSamples n = { dst := interleave first, count := first.length,
                        after := { s with audio := { s.audio with samples := rest } } } := by
  have cut : s.audio.samples.take n = first ∧ s.audio.samples.drop n = rest := by
    obtain rfl | ⟨short, rfl⟩ := hn
    · simp [h]
    · simp [h, List.take_of_length_le short, List.drop_eq_nil_of_le short]
  simp only [State.takeSamples, cut]

/-- Settles O7: the count and the sample clock through the devices' advance, the T-cycles of the CPU step. -/
theorem stepCounts : Obligations.StepCounts := by
  unfold Obligations.StepCounts
  refine ⟨fun s t h => ?_, fun s n first rest h hn => ?_⟩
  · obtain ⟨e, he, rfl⟩ := step_cases h
    obtain ⟨count, audio, params, -⟩ := cpuStep_applyInputs_keeps he
    rw [State.advanceDevices_tcycles]
    refine ⟨count, fun table => ?_, ?_⟩
    · have standard : s.applyInputs.params.cycleTable = none := by rw [State.applyInputs_only]; exact table
      exact cpuStep_tcycles he standard
    · rintro _ rfl phase
      rw [← params] at phase ⊢
      rw [← audio] at phase ⊢
      obtain ⟨more, samples, total, bound⟩ := Audio.advance_spec e.params e.ram e.tcycles e.apu e.audio
      exact ⟨more, samples, total, bound phase⟩
  · rw [s.takeSamples_of_append h hn]
    refine ⟨rfl, ?_, interleave_eq_flatten first, rfl⟩
    obtain rfl | ⟨short, -⟩ := hn
    · exact Nat.le_refl _
    · exact short

/-! ### The HALT bug (30_encoding.md R135, 92_eei_decisions.md D9) -/

/-- With interrupts off and no EI pending nothing follows the instruction. -/
theorem runInstruction_of_ime_false {u e : State} (h : exec u.fetched u.afterFetch = .next e) (ime : e.ime = false)
    (noEi : u.eiDelayPending = false) : runInstruction u = .next (u.charge e) := by
  have off : (u.charge e).ime = false := by rw [State.charge_only_tcycles]; exact ime
  simp [runInstruction, h, noEi, State.endOfStep, State.promoteEi, State.serviceInterrupt, off]

theorem State.countStep_ioRead (s : State) (reg : Nat) : s.countStep.ioRead reg = s.ioRead reg := rfl

/-- No read sees the step count. -/
theorem State.countStep_memRead (s : State) (a : Word) : s.countStep.memRead a = s.memRead a := by
  simp only [State.memRead]
  split
  case h_8 => exact s.countStep_ioRead _
  all_goals rfl

/-- Under the HALT bug the byte after the opcode is read where the opcode was. -/
theorem State.fetched_of_haltBug {s : State} (bug : s.haltBugActive = true) :
    s.fetched = decodeOp (s.memRead s.pc) (s.memRead s.pc) (s.memRead (s.pc + 1)) := by
  simp [State.fetched, State.fetchBytes, State.operandAddr, bug]

/-- Under the HALT bug PC moves by one byte less than the instruction's length. -/
theorem State.afterFetch_pc_of_haltBug {s : State} (bug : s.haltBugActive = true) :
    s.afterFetch.pc = s.pc + BitVec.ofNat 16 (instrLength (s.memRead s.pc) - 1) := by
  simp [State.operandAddr, bug]

/-- Settles O13: the operand bytes of the instruction at PC are read from PC on. -/
theorem haltBugRunsTwice : Obligations.HaltBugRunsTwice := by
  unfold Obligations.HaltBugRunsTwice
  intro s running bug ime noEi
  have runs : cpuStep s = runInstruction s.countStep := by simp [cpuStep, running]
  have fetched := State.fetched_of_haltBug (s := s.countStep) bug
  have pc := State.afterFetch_pc_of_haltBug (s := s.countStep) bug
  refine ⟨fun opcode => ?_, fun opcode => ?_⟩
  · have byte : s.countStep.memRead s.countStep.pc = 0x04 := (s.countStep_memRead _).trans opcode
    rw [byte] at fetched pc
    have inc : exec s.countStep.fetched s.countStep.afterFetch = incReg .b s.countStep.afterFetch := by
      rw [fetched]; rfl
    have done := runInstruction_of_ime_false (inc.trans (incReg_next ..)) ime noEi
    rw [State.charge_only_tcycles] at done
    exact ⟨_, runs.trans done, pc.trans (BitVec.add_zero _), rfl, rfl⟩
  · have byte : s.countStep.memRead s.countStep.pc = 0x3E := (s.countStep_memRead _).trans opcode
    rw [byte] at fetched pc
    have load : exec s.countStep.fetched s.countStep.afterFetch = loadImm .a 0x3E s.countStep.afterFetch := by
      rw [fetched]; rfl
    have done := runInstruction_of_ime_false (load.trans (loadImm_next ..)) ime noEi
    rw [State.charge_only_tcycles] at done
    exact ⟨_, runs.trans done, pc, rfl, rfl⟩

end Sys2Proof.Machine

/-! # The state after reset (10_state.md R51, R52; 70_reset_and_hazards.md R610 to R616) -/

namespace Sys2Proof.Machine

/-! ### The I/O table of 70_reset_and_hazards.md R612 -/

/-- An I/O register outside wave RAM reads after reset what the I/O table alone gives. -/
theorem resetWith_ioRead (params : Params) (io : PostBootIo) (cart : Cartridge) (draws : Memory) {reg : Nat}
    (h : ¬ (0x30 ≤ reg ∧ reg < 0x40)) :
    (State.resetWith params io cart draws).ioRead reg =
      (State.resetWith Params.reset io Cartridge.empty ⟨[]⟩).ioRead reg := by
  unfold State.ioRead
  split
  case h_19 => rw [if_neg h, if_neg h]; rfl
  all_goals rfl

/-- Whether `State.reset` answers a byte for an address: IE, or an I/O register outside wave RAM. -/
def resetEntry (r : Word × Byte) : Bool :=
  decide (r = (0xFFFF, 0x00)) ||
  (decide (0xFF00 ≤ r.1.toNat ∧ r.1.toNat ≤ 0xFF7F ∧ ¬ (0x30 ≤ r.1.toNat - 0xFF00 ∧ r.1.toNat - 0xFF00 < 0x40)) &&
    decide (State.reset.ioRead (r.1.toNat - 0xFF00) = r.2))

theorem resetWith_table (params : Params) (cart : Cartridge) (draws : Memory) {l : List (Word × Byte)}
    (h : l.all resetEntry = true) : ∀ r ∈ l, (State.resetWith params postBootDmg cart draws).memRead r.1 = r.2 := by
  intro r hr
  have entry := List.all_eq_true.mp h r hr
  simp only [resetEntry, Bool.or_eq_true, Bool.and_eq_true, decide_eq_true_eq] at entry
  obtain rfl | ⟨⟨low, high, noWave⟩, byte⟩ := entry
  · rfl
  · rw [State.memRead_io _ low high, resetWith_ioRead _ _ _ _ noWave]
    exact byte

/-! ### A store to HRAM and its read (20_memory.md R87) -/

theorem regionOf_hram {a : Nat} (h : 0xFF80 ≤ a) (k : a < 0xFFFF) : regionOf a = .hram := by
  simp [regionOf, show ¬ a < 0x8000 by omega, show ¬ a < 0xA000 by omega, show ¬ a < 0xC000 by omega,
    show ¬ a < 0xE000 by omega, show ¬ a < 0xFE00 by omega, show ¬ a < 0xFEA0 by omega, show ¬ a < 0xFF00 by omega,
    show ¬ a < 0xFF80 by omega, k]

theorem State.memRead_hram (s : State) {a : Word} (h : 0xFF80 ≤ a.toNat) (k : a.toNat < 0xFFFF) :
    s.memRead a = s.ram.read a.toNat := by
  simp only [State.memRead, regionOf_hram h k]

theorem State.memWrite_hram (s : State) {a : Word} (h : 0xFF80 ≤ a.toNat) (k : a.toNat < 0xFFFF) (v : Byte) :
    s.memWrite a v = s.writeArray a.toNat v := by
  simp only [State.memWrite, regionOf_hram h k]

theorem State.pushByte_hram {s : State} {a : Word} (sp : s.sp - 1 = a) (h : 0xFF80 ≤ a.toNat) (k : a.toNat < 0xFFFF)
    (v : Byte) : s.pushByte v = { s with sp := a, ram := s.ram.write a.toNat v } := by
  subst sp
  exact State.memWrite_hram _ h k v

/-- A push at 0xFFFE stores to HRAM (70_reset_and_hazards.md R616). -/
theorem State.push16_of_sp_fffe {s : State} (sp : s.sp = 0xFFFE) (w : Word) :
    s.push16 w = { s with sp := 0xFFFC, ram := (s.ram.write 0xFFFD (hiByte w)).write 0xFFFC (loByte w) } := by
  have high := State.pushByte_hram (s := s) (a := 0xFFFD) (by rw [sp]; rfl) (by decide) (by decide) (hiByte w)
  rw [State.push16, high]
  exact State.pushByte_hram (a := 0xFFFC) (show (0xFFFD : Word) - 1 = 0xFFFC by decide) (by decide) (by decide)
    (loByte w)

theorem State.push16_stores {s : State} (sp : s.sp = 0xFFFE) (w : Word) :
    (s.push16 w).sp = 0xFFFC ∧ (s.push16 w).memRead 0xFFFD = hiByte w ∧ (s.push16 w).memRead 0xFFFC = loByte w := by
  rw [State.push16_of_sp_fffe sp, State.memRead_hram _ (by decide) (by decide),
    State.memRead_hram _ (by decide) (by decide)]
  refine ⟨rfl, ?_, Memory.read_write_same ..⟩
  exact (Memory.read_write_other _ (by decide) _).trans (Memory.read_write_same ..)

/-! ### Loading an image (64_cartridge.md R590, R591) -/

/-- A controller as the loader makes it. -/
def Mbc.AtReset (m : Mbc) : Prop := m = .none ∨ m = Mbc.reset1 ∨ m = Mbc.reset2 ∨ m = Mbc.reset3 ∨ m = Mbc.reset5

theorem cartTypeOf_atReset {code : Byte} {t : CartType} (h : cartTypeOf code = some t) : t.mbc.AtReset := by
  unfold cartTypeOf at h
  split at h
  all_goals cases h
  all_goals simp [Mbc.AtReset]

theorem Mbc.AtReset.romBank {m : Mbc} (h : m.AtReset) : m.romBank = 1 := by
  obtain rfl | rfl | rfl | rfl | rfl := h <;> rfl

theorem Mbc.AtReset.inv {m : Mbc} (h : m.AtReset) : m.Inv := by
  obtain rfl | rfl | rfl | rfl | rfl := h <;> simp [Mbc.Inv, Mbc.reset1, Mbc.reset2, Mbc.reset3, Mbc.reset5]

/-- Behind a controller the external RAM starts disabled. -/
theorem Mbc.AtReset.mapRam {m : Mbc} (h : m.AtReset) (controller : m.kind ≠ 0) (a : Nat) :
    m.mapRam a = Option.none := by
  obtain rfl | rfl | rfl | rfl | rfl := h
  · exact absurd rfl controller
  all_goals rfl

theorem ramSizeOf_le (code : Byte) : ramSizeOf code ≤ 0x20000 := by
  unfold ramSizeOf
  split
  case h_7 => exact Nat.min_le_right _ _
  all_goals decide

theorem CartType.ramSize_le (t : CartType) (code : Byte) : t.ramSize code ≤ 0x20000 := by
  unfold CartType.ramSize
  split
  · decide
  · split
    · exact ramSizeOf_le code
    · exact Nat.zero_le _

theorem loadCartridge_spec {image : List Byte} {draws : Memory} {c : Cartridge}
    (h : loadCartridge image draws = .ok c) :
    c.mbc.AtReset ∧ c.ramSize ≤ 0x20000 := by
  unfold loadCartridge at h
  split at h
  · cases h
  · split at h
    · cases h
    · split at h
      case h_1 => cases h
      case h_2 t type => cases h; exact ⟨cartTypeOf_atReset type, t.ramSize_le _⟩

theorem resetWithImage_spec {params : Params} {io : PostBootIo} {image : List Byte} {xramDraws draws : Memory}
    {s : State} (h : resetWithImage .immediate params io image xramDraws draws = .ok s) :
    s.cart.mbc.AtReset ∧ s.cart.ramSize ≤ 0x20000 := by
  simp only [resetWithImage] at h
  split at h
  case h_1 => cases h
  case h_2 c load => cases h; exact loadCartridge_spec load

theorem State.memRead_xram_of_unmapped {s : State} {a : Word} (h : 0xA000 ≤ a.toNat) (k : a.toNat ≤ 0xBFFF)
    (unmapped : s.cart.mbc.mapRam a.toNat = none) : s.memRead a = 0xFF := by
  simp [State.memRead, regionOf_xram h (Nat.lt_succ_of_le k), Cartridge.readRam, Cartridge.ramOffset, unmapped]

/-- Settles O60: the registers by computation, the I/O table by one evaluation of `State.reset`, the image by the
controllers the loader makes. -/
theorem resetValues : Obligations.ResetValues := by
  unfold Obligations.ResetValues
  refine ⟨?_, ?_⟩
  · rintro params cart draws _ rfl
    have flags : Flags.toByte { z := true, n := false, h := true, c := true } = 0xB0 := by decide
    have lcdOn : (Ppu.reset postBootDmg).lcdOn = true := by decide
    have power : (Apu.reset postBootDmg).power = true := by decide
    exact ⟨rfl, flags, rfl, rfl, rfl, rfl, rfl, rfl, rfl, resetWith_table params cart draws (by decide),
      rfl, rfl, rfl, rfl, rfl, lcdOn, power, State.push16_stores rfl⟩
  · intro params io image xramDraws draws s h
    obtain ⟨atReset, ramSize⟩ := resetWithImage_spec h
    exact ⟨atReset.romBank, ramSize, atReset.inv, fun controller a low high =>
      State.memRead_xram_of_unmapped low high (atReset.mapRam controller _)⟩

end Sys2Proof.Machine

/-! # The regions and registers of the memory map, each with its read and its store (20_memory.md R77 to R96) -/

namespace Sys2Proof.Machine

/-! ### Regions (R77, R82 to R87, R92 to R94) -/

theorem regionOf_echo {a : Nat} (h : 0xE000 ≤ a) (k : a < 0xFE00) : regionOf a = .echo := by
  simp [regionOf, show ¬ a < 0x8000 by omega, show ¬ a < 0xA000 by omega, show ¬ a < 0xC000 by omega,
    show ¬ a < 0xE000 by omega, k]
theorem regionOf_oam {a : Nat} (h : 0xFE00 ≤ a) (k : a < 0xFEA0) : regionOf a = .oam := by
  simp [regionOf, show ¬ a < 0x8000 by omega, show ¬ a < 0xA000 by omega, show ¬ a < 0xC000 by omega,
    show ¬ a < 0xE000 by omega, show ¬ a < 0xFE00 by omega, k]
theorem regionOf_prohibited {a : Nat} (h : 0xFEA0 ≤ a) (k : a < 0xFF00) : regionOf a = .prohibited := by
  simp [regionOf, show ¬ a < 0x8000 by omega, show ¬ a < 0xA000 by omega, show ¬ a < 0xC000 by omega,
    show ¬ a < 0xE000 by omega, show ¬ a < 0xFE00 by omega, show ¬ a < 0xFEA0 by omega, k]

theorem toNat_add_0x2000 {a : Word} (h : a.toNat < 0xE000) : (a + 0x2000).toNat = a.toNat + 0x2000 := by bv_omega

theorem toNat_sub_0x2000 {a : Word} (h : 0x2000 ≤ a.toNat) : (a - 0x2000).toNat = a.toNat - 0x2000 := by bv_omega

theorem regionOf_ie : regionOf 0xFFFF = .ie := by decide

section
variable (s : State) {a : Word} (v : Byte)

/-- VRAM answers outside mode 3 only (R82, R92). -/
theorem State.memRead_vram (h : 0x8000 ≤ a.toNat) (k : a.toNat < 0xA000) :
    s.memRead a = if s.ppu.mode = .transfer then 0xFF else s.ram.read a.toNat := by
  simp [State.memRead, regionOf_vram h k, State.vramOpen, ite_not]

theorem State.memWrite_vram (h : 0x8000 ≤ a.toNat) (k : a.toNat < 0xA000) :
    s.memWrite a v = if s.ppu.mode = .transfer then s else s.writeArray a.toNat v := by
  simp [State.memWrite, regionOf_vram h k, State.vramOpen, ite_not]

theorem State.memRead_wram (h : 0xC000 ≤ a.toNat) (k : a.toNat < 0xE000) : s.memRead a = s.ram.read a.toNat := by
  simp only [State.memRead, regionOf_wram h k]

theorem State.memWrite_wram (h : 0xC000 ≤ a.toNat) (k : a.toNat < 0xE000) :
    s.memWrite a v = s.writeArray a.toNat v := by
  simp only [State.memWrite, regionOf_wram h k]

theorem State.memRead_echo (h : 0xE000 ≤ a.toNat) (k : a.toNat < 0xFE00) :
    s.memRead a = s.ram.read (a.toNat - 0x2000) := by
  simp only [State.memRead, regionOf_echo h k]

theorem State.memWrite_echo (h : 0xE000 ≤ a.toNat) (k : a.toNat < 0xFE00) :
    s.memWrite a v = s.writeArray (a.toNat - 0x2000) v := by
  simp only [State.memWrite, regionOf_echo h k]

/-- OAM answers a read outside modes 2 and 3 only (R85). -/
theorem State.memRead_oam (h : 0xFE00 ≤ a.toNat) (k : a.toNat < 0xFEA0) :
    s.memRead a = if s.ppu.mode = .oamSearch ∨ s.ppu.mode = .transfer then 0xFF else s.ram.read a.toNat := by
  simp only [State.memRead, regionOf_oam h k]
  cases mode : s.ppu.mode <;> simp [State.oamOpen, mode]

theorem State.memWrite_oam (h : 0xFE00 ≤ a.toNat) (k : a.toNat < 0xFEA0) : s.memWrite a v = s.writeOam a.toNat v := by
  simp only [State.memWrite, regionOf_oam h k]

theorem State.memRead_prohibited (h : 0xFEA0 ≤ a.toNat) (k : a.toNat < 0xFF00) : s.memRead a = 0xFF := by
  simp only [State.memRead, regionOf_prohibited h k]

theorem State.memWrite_prohibited (h : 0xFEA0 ≤ a.toNat) (k : a.toNat < 0xFF00) : s.memWrite a v = s := by
  simp only [State.memWrite, regionOf_prohibited h k]

theorem State.memRead_ie : s.memRead 0xFFFF = s.ie := by
  simp only [State.memRead, BitVec.reduceToNat, regionOf_ie]

theorem State.memWrite_ie : s.memWrite 0xFFFF v = { s with ie := v } := by
  simp only [State.memWrite, BitVec.reduceToNat, regionOf_ie]

end

/-! ### I/O registers (R86, R96) -/

/-- The I/O registers the memory map leaves unassigned, and the serial pair (R86, 60_exceptions.md R445). -/
abbrev NoRegister (reg : Nat) : Prop :=
  (0x01 ≤ reg ∧ reg ≤ 0x03) ∨ (0x08 ≤ reg ∧ reg ≤ 0x0E) ∨ (0x4C ≤ reg ∧ reg ≤ 0x7F)

theorem State.ioRead_noRegister (s : State) {reg : Nat} (h : NoRegister reg) : s.ioRead reg = 0xFF := by
  have noSound : ¬ (0x10 ≤ reg ∧ reg < 0x30) := by omega
  have noWave : ¬ (0x30 ≤ reg ∧ reg < 0x40) := by omega
  unfold State.ioRead
  split
  case h_19 => rw [if_neg noSound, if_neg noWave]
  all_goals omega

theorem State.ioWrite_noRegister (s : State) {reg : Nat} (h : NoRegister reg) (v : Byte) : s.ioWrite reg v = s := by
  have noSound : ¬ (0x10 ≤ reg ∧ reg < 0x30) := by omega
  have noWave : ¬ (0x30 ≤ reg ∧ reg < 0x40) := by omega
  unfold State.ioWrite
  split
  case h_18 => rw [if_neg noSound, if_neg noWave]
  all_goals omega

theorem toNat_ioAddress (reg : Fin 0x80) : (BitVec.ofNat 16 (0xFF00 + reg.val)).toNat = 0xFF00 + reg.val := by
  rw [BitVec.toNat_ofNat]; omega

theorem State.memRead_register (s : State) (reg : Fin 0x80) :
    s.memRead (BitVec.ofNat 16 (0xFF00 + reg.val)) = s.ioRead reg.val := by
  have address := toNat_ioAddress reg
  rw [s.memRead_io (by omega) (by omega), address, Nat.add_sub_cancel_left]

theorem State.memWrite_register (s : State) (reg : Fin 0x80) (v : Byte) :
    s.memWrite (BitVec.ofNat 16 (0xFF00 + reg.val)) v = s.ioWrite reg.val v := by
  have address := toNat_ioAddress reg
  rw [s.memWrite_io (by omega) (by omega), address, Nat.add_sub_cancel_left]

theorem State.memRead_memWrite_register (s : State) (reg : Fin 0x80) (v : Byte) :
    (s.memWrite (BitVec.ofNat 16 (0xFF00 + reg.val)) v).memRead (BitVec.ofNat 16 (0xFF00 + reg.val)) =
      (s.ioWrite reg.val v).ioRead reg.val := by
  rw [s.memWrite_register, State.memRead_register]

/-! ### Registers of fewer than eight bits (62_ppu.md R483, 60_exceptions.md R412, 61_timer.md R461) -/

/-- The mode bits of STAT are those of the mode's number. -/
theorem PpuMode.code_setWidth (m : PpuMode) : m.code.setWidth 8 =
    (match m with | .hblank => 0#8 | .vblank => 1#8 | .oamSearch => 2#8 | .transfer => 3#8) := by
  cases m <;> rfl

theorem statBits_append (enables : BitVec 4) (coincidence : Bool) (mode : BitVec 2) :
    1#1 ++ enables ++ BitVec.ofBool coincidence ++ mode =
      0x80#8 ||| enables.setWidth 8 <<< 3 ||| (if coincidence then 4#8 else 0#8) ||| mode.setWidth 8 := by
  revert enables coincidence mode; decide

theorem iflagByte_eq (iflag : BitVec 5) : 0b111#3 ++ iflag = 0xE0#8 ||| iflag.setWidth 8 := by revert iflag; decide

theorem tacByte_eq (tac : BitVec 3) : 0x1F#5 ++ tac = 0xF8#8 ||| tac.setWidth 8 := by revert tac; decide

/-- While the LCD is off a coherent PPU is in mode 0 (62_ppu.md R490). -/
theorem Ppu.mode_of_lcdOff {params : Params} {p : Ppu} (h : p.Inv params) (off : p.lcdOn = false) :
    p.mode = .hblank := by
  obtain ⟨-, -, due, -⟩ := h
  simpa [Ppu.dueMode, off] using due

theorem Ppu.statByte_eq (p : Ppu) : p.statByte =
    0x80#8 ||| p.statEnables.setWidth 8 <<< 3 ||| (if p.coincidence then 4#8 else 0#8) |||
      (if p.lcdc.getLsbD 7 then
        (match p.mode with | .hblank => 0#8 | .vblank => 1#8 | .oamSearch => 2#8 | .transfer => 3#8)
       else 0#8) := by
  rw [← PpuMode.code_setWidth]
  exact (statBits_append ..).trans (congrArg _ (apply_ite (BitVec.setWidth 8) ..))

/-- Settles O37: one read rule per region, and for the registers the read of their byte. -/
theorem readContract : Obligations.ReadContract := by
  unfold Obligations.ReadContract
  intro s a
  refine ⟨fun low high => ⟨s.memRead_vram low (by omega), fun inv off => ?_⟩,
    fun low high => s.memRead_wram low (by omega), fun low high => ?_, fun low high => s.memRead_oam low (by omega),
    fun low high => s.memRead_prohibited low (by omega), fun low high => s.memRead_hram low (by omega),
    ?_, ?_, ?_, ?_, ?_, fun range => ?_⟩
  · rw [s.memRead_vram low (by omega), Ppu.mode_of_lcdOff inv off, if_neg (by decide)]
  · have shift := toNat_sub_0x2000 (a := a) (by omega)
    rw [s.memRead_echo low (by omega), s.memRead_wram (by omega) (by omega), shift]
  · rintro rfl
    exact s.memRead_ie
  · rintro rfl
    exact (s.memRead_register 0x0F).trans (iflagByte_eq s.iflag)
  · simp only [List.forall_mem_cons]
    exact ⟨s.memRead_register 0x40, s.memRead_register 0x42, s.memRead_register 0x43, s.memRead_register 0x44,
      s.memRead_register 0x45, s.memRead_register 0x46, s.memRead_register 0x47, s.memRead_register 0x48,
      s.memRead_register 0x49, s.memRead_register 0x4A, s.memRead_register 0x4B, fun _ h => nomatch h⟩
  · exact (s.memRead_register 0x41).trans s.ppu.statByte_eq
  · simp only [List.forall_mem_cons]
    exact ⟨s.memRead_register 0x04, s.memRead_register 0x05, s.memRead_register 0x06,
      (s.memRead_register 0x07).trans (tacByte_eq s.timer.tac), fun _ h => nomatch h⟩
  · rw [s.memRead_io (by omega) (by omega)]
    exact s.ioRead_noRegister (by omega)

end Sys2Proof.Machine

/-! # What a store writes, and that it is read back (20_memory.md R92 to R96, R104) -/

namespace Sys2Proof.Machine

/-! ### Plain stores -/

section
variable (s : State) {a : Word} (v : Byte)

/-- A byte stored outside mode 3 is read back (R82). -/
theorem State.memRead_writeArray_vram (h : 0x8000 ≤ a.toNat) (k : a.toNat < 0xA000) (gate : s.ppu.mode ≠ .transfer) :
    (s.writeArray a.toNat v).memRead a = v := by
  rw [State.memRead_vram _ h k, State.writeArray_ppu, if_neg gate]
  exact Memory.read_write_same ..

theorem State.memRead_writeArray_wram (h : 0xC000 ≤ a.toNat) (k : a.toNat < 0xE000) :
    (s.writeArray a.toNat v).memRead a = v := by
  rw [State.memRead_wram _ h k]
  exact Memory.read_write_same ..

/-- An echo address shows the byte of the WRAM cell 0x2000 below (R84). -/
theorem State.memRead_writeArray_echo {c : Nat} (h : 0xE000 ≤ a.toNat) (k : a.toNat < 0xFE00)
    (cell : a.toNat - 0x2000 = c) : (s.writeArray c v).memRead a = v := by
  rw [State.memRead_echo _ h k, cell]
  exact Memory.read_write_same ..

theorem State.memRead_writeArray_hram (h : 0xFF80 ≤ a.toNat) (k : a.toNat < 0xFFFF) :
    (s.writeArray a.toNat v).memRead a = v := by
  rw [State.memRead_hram _ h k]
  exact Memory.read_write_same ..

end

theorem iflagByte_setWidth (v : Byte) : 0b111#3 ++ v.setWidth 5 = 0xE0#8 ||| v := by revert v; decide

/-- Settles O38: the store of each region, then the read rule of the same address on the state it leaves. -/
theorem plainWrites : Obligations.PlainWrites := by
  unfold Obligations.PlainWrites
  intro s a v
  refine ⟨fun low high => ⟨fun gate => ?_, fun gate => ?_⟩, ?_, fun low high => ?_, fun low high => ?_, ?_, ?_, ?_, ?_,
    ?_, ?_⟩
  · rw [s.memWrite_vram v low (by omega), if_pos gate]
  · rw [s.memWrite_vram v low (by omega), if_neg gate]
    exact ⟨rfl, s.memRead_writeArray_vram v low (by omega) gate⟩
  · rintro (⟨low, high⟩ | ⟨low, high⟩)
    · rw [s.memWrite_wram v low (by omega)]
      exact ⟨rfl, s.memRead_writeArray_wram v low (by omega)⟩
    · rw [s.memWrite_hram low (by omega)]
      exact ⟨rfl, s.memRead_writeArray_hram v low (by omega)⟩
  · have shift := toNat_add_0x2000 (a := a) (by omega)
    rw [s.memWrite_wram v low (by omega)]
    exact s.memRead_writeArray_echo v (by omega) (by omega) (by omega)
  · have shift := toNat_sub_0x2000 (a := a) (by omega)
    rw [s.memWrite_echo v low (by omega)]
    refine ⟨rfl, s.memRead_writeArray_echo v low (by omega) rfl, ?_⟩
    rw [← shift]
    exact s.memRead_writeArray_wram v (by omega) (by omega)
  · rintro rfl
    exact ⟨s.memWrite_ie v, State.memRead_ie _⟩
  · rintro rfl
    exact ⟨s.memWrite_register 0x0F v, (s.memRead_memWrite_register 0x0F v).trans (iflagByte_setWidth v)⟩
  · exact s.memWrite_register 0x41 v
  · exact s.memWrite_register 0x44 v
  · simp only [List.forall_mem_cons]
    exact ⟨⟨s.memWrite_register 0x42 v, s.memRead_memWrite_register 0x42 v⟩,
      ⟨s.memWrite_register 0x43 v, s.memRead_memWrite_register 0x43 v⟩,
      ⟨s.memWrite_register 0x45 v, s.memRead_memWrite_register 0x45 v⟩,
      ⟨s.memWrite_register 0x47 v, s.memRead_memWrite_register 0x47 v⟩,
      ⟨s.memWrite_register 0x48 v, s.memRead_memWrite_register 0x48 v⟩,
      ⟨s.memWrite_register 0x49 v, s.memRead_memWrite_register 0x49 v⟩,
      ⟨s.memWrite_register 0x4A v, s.memRead_memWrite_register 0x4A v⟩,
      ⟨s.memWrite_register 0x4B v, s.memRead_memWrite_register 0x4B v⟩, fun _ h => nomatch h⟩
  · intro range
    by_cases io : 0xFF00 ≤ a.toNat
    · rw [s.memWrite_io io (by omega)]
      exact s.ioWrite_noRegister (by omega) v
    · exact s.memWrite_prohibited v (by omega) (by omega)

end Sys2Proof.Machine

/-! # What a read depends on, and the OAM DMA copy (20_memory.md R80 to R87, R94, R95, R104) -/

namespace Sys2Proof.Machine

/-! ### The cell behind an address (20_memory.md R84) -/

theorem unecho_of_echo {a : Nat} (h : regionOf a = .echo) : unecho a = a - 0x2000 := by
  have bounds := regionOf_bounds a
  rw [h] at bounds
  exact if_pos bounds

theorem unecho_of_not_echo {a : Nat} (h : regionOf a ≠ .echo) : unecho a = a :=
  if_neg fun ⟨low, high⟩ => h (regionOf_echo low high)

/-- What a read of address `a` depends on is the same in `s` and `w`. -/
structure State.SameAt (s w : State) (a : Nat) : Prop where
  rom  : regionOf a = .rom → w.cart.readRom a = s.cart.readRom a
  xram : regionOf a = .xram → w.cart.readRam a = s.cart.readRam a
  gate : regionOf a = .vram ∨ regionOf a = .oam → w.ppu.mode = s.ppu.mode
  cell : regionOf a ≠ .io → w.ram.read (unecho a) = s.ram.read (unecho a)
  io   : regionOf a = .io → w.ioRead (a - 0xFF00) = s.ioRead (a - 0xFF00)
  ie   : regionOf a = .ie → w.ie = s.ie

theorem State.vramOpen_of_mode {s w : State} (h : w.ppu.mode = s.ppu.mode) : w.vramOpen = s.vramOpen := by
  rw [State.vramOpen, State.vramOpen, h]

theorem State.oamOpen_of_mode {s w : State} (h : w.ppu.mode = s.ppu.mode) : w.oamOpen = s.oamOpen := by
  rw [State.oamOpen, State.oamOpen, h]

theorem State.SameAt.memRead_eq {s w : State} {a : Word} (same : s.SameAt w a.toNat) : w.memRead a = s.memRead a := by
  obtain ⟨rom, xram, gate, cell, io, ie⟩ := same
  have plain (noEcho : regionOf a.toNat ≠ .echo) (noIo : regionOf a.toNat ≠ .io) :
      w.ram.read a.toNat = s.ram.read a.toNat := by
    have cell := cell noIo
    rwa [unecho_of_not_echo noEcho] at cell
  simp only [State.memRead]
  cases region : regionOf a.toNat
  case rom => exact rom region
  case vram =>
    rw [State.vramOpen_of_mode (gate (.inl region)), plain (by simp [region]) (by simp [region])]
  case xram => exact xram region
  case echo =>
    rw [← unecho_of_echo region]
    exact cell (by simp [region])
  case oam =>
    rw [State.oamOpen_of_mode (gate (.inr region)), plain (by simp [region]) (by simp [region])]
  case prohibited => rfl
  case io => exact io region
  case ie => exact ie region
  case wram | hram => exact plain (by simp [region]) (by simp [region])

/-- Of the arrays the registers' window shows wave RAM only (R86). -/
theorem State.ioRead_setRam (s : State) {m : Memory} {reg : Nat}
    (h : m.read (0xFF00 + reg) = s.ram.read (0xFF00 + reg)) : State.ioRead { s with ram := m } reg = s.ioRead reg := by
  unfold State.ioRead
  split
  case h_19 => rw [h]
  all_goals rfl

/-- A read depends on the arrays through one cell. -/
theorem State.memRead_setRam (s : State) {m : Memory} {a : Word}
    (h : m.read (unecho a.toNat) = s.ram.read (unecho a.toNat)) :
    State.memRead { s with ram := m } a = s.memRead a := by
  refine State.SameAt.memRead_eq ⟨fun _ => rfl, fun _ => rfl, fun _ => rfl, fun _ => h, fun io => ?_, fun _ => rfl⟩
  have bounds := regionOf_bounds a.toNat
  rw [io] at bounds
  apply State.ioRead_setRam
  rwa [unecho_of_not_echo (by simp [io]), show a.toNat = 0xFF00 + (a.toNat - 0xFF00) by omega] at h

theorem State.memRead_writeArray_other (s : State) {a : Word} {c : Nat} (h : unecho a.toNat ≠ c) (v : Byte) :
    (s.writeArray c v).memRead a = s.memRead a :=
  s.memRead_setRam (Memory.read_write_other _ h v)

/-! ### Stores to OAM, by mode (R94, R95) -/

theorem State.writeOam_transfer {s : State} (mode : s.ppu.mode = .transfer) (c : Nat) (v : Byte) :
    s.writeOam c v = s := by
  simp only [State.writeOam, mode]

theorem State.writeOam_oamSearch {s : State} (mode : s.ppu.mode = .oamSearch) (c : Nat) (v : Byte) :
    s.writeOam c v = s.writeArray c (s.ram.read (0xFE00 + s.ppu.scanOffset)) := by
  simp only [State.writeOam, mode]

theorem State.writeOam_blank {s : State} (mode : s.ppu.mode = .hblank ∨ s.ppu.mode = .vblank) (c : Nat) (v : Byte) :
    s.writeOam c v = s.writeArray c v := by
  obtain mode | mode := mode <;> simp only [State.writeOam, mode]

/-- A store to OAM reaches one cell at most. -/
theorem State.writeOam_cases (s : State) (c : Nat) (v : Byte) :
    s.writeOam c v = s ∨ ∃ w : Byte, s.writeOam c v = s.writeArray c w := by
  cases mode : s.ppu.mode with
  | transfer => exact .inl (State.writeOam_transfer mode c v)
  | oamSearch => exact .inr ⟨_, State.writeOam_oamSearch mode c v⟩
  | hblank => exact .inr ⟨v, State.writeOam_blank (.inl mode) c v⟩
  | vblank => exact .inr ⟨v, State.writeOam_blank (.inr mode) c v⟩

theorem modeFor_oamSearch {ly cycle : Nat} (h : modeFor ly cycle = .oamSearch) : cycle < 80 := by
  unfold modeFor at h
  split at h
  · split at h
    · assumption
    · split at h <;> cases h
  · cases h

/-- In mode 2 the scan is within OAM. -/
theorem Ppu.scanOffset_lt {params : Params} {p : Ppu} (h : p.Inv params) (mode : p.mode = .oamSearch) :
    p.scanOffset < 160 := by
  obtain ⟨-, -, due, -⟩ := h
  rw [mode, Ppu.dueMode] at due
  split at due
  · have cycle := modeFor_oamSearch due.symm
    unfold Ppu.scanOffset
    omega
  · cases due

/-! ### The OAM DMA copy (R104) -/

/-- The state after the first `n` bytes of the copy. -/
def State.dmaPrefix (s : State) (v : Byte) (n : Nat) : State := (List.range n).foldl (State.dmaByte v) s

theorem State.dmaPrefix_succ (s : State) (v : Byte) (n : Nat) :
    s.dmaPrefix v (n + 1) = (s.dmaPrefix v n).dmaByte v n := by
  simp [State.dmaPrefix, List.range_succ]

/-- The cell the copy reads for byte `n` is one it has not written yet: outside OAM, or byte `n` of OAM itself. -/
theorem dmaSource_unwritten (v : Byte) {n : Nat} (hn : n < 160) :
    unecho (v ++ BitVec.ofNat 8 n).toNat < 0xFE00 ∨ 0xFE00 + n ≤ unecho (v ++ BitVec.ofNat 8 n).toNat := by
  have source : (v ++ BitVec.ofNat 8 n).toNat = v.toNat * 256 + n := by
    rw [BitVec.toNat_append, BitVec.toNat_ofNat, Nat.mod_eq_of_lt (by omega),
      ← Nat.shiftLeft_add_eq_or_of_lt (by omega), Nat.shiftLeft_eq]
  unfold unecho
  split <;> omega

/-- What stands in the arrays after `n` bytes: those bytes, as they read before the copy, and elsewhere what stood
there. -/
theorem State.dmaPrefix_ram (s : State) (v : Byte) {n : Nat} (hn : n ≤ 160) :
    (∀ i : Nat, i < n → (s.dmaPrefix v n).ram.read (0xFE00 + i) = s.memRead (v ++ BitVec.ofNat 8 i)) ∧
    (∀ y : Nat, y < 0xFE00 ∨ 0xFE00 + n ≤ y → (s.dmaPrefix v n).ram.read y = s.ram.read y) := by
  induction n with
  | zero => exact ⟨fun i hi => absurd hi (Nat.not_lt_zero i), fun _ _ => rfl⟩
  | succ n ih =>
    obtain ⟨copied, kept⟩ := ih (by omega)
    have source : (s.dmaPrefix v n).memRead (v ++ BitVec.ofNat 8 n) = s.memRead (v ++ BitVec.ofNat 8 n) := by
      rw [State.dmaPrefix, State.dmaBytes_only_ram]
      exact s.memRead_setRam (kept _ (dmaSource_unwritten v (by omega)))
    rw [State.dmaPrefix_succ, State.dmaByte, State.writeArray_ram, source]
    refine ⟨fun i hi => ?_, fun y hy => ?_⟩
    · obtain rfl | earlier := Nat.eq_or_lt_of_le (Nat.le_of_lt_succ hi)
      · exact Memory.read_write_same ..
      · rw [Memory.read_write_other _ (by omega)]
        exact copied i earlier
    · rw [Memory.read_write_other _ (by omega)]
      exact kept y (by omega)

/-- The whole copy. -/
theorem State.oamDma_spec (s : State) (v : Byte) : ∃ m : Memory,
    s.oamDma v = { s with ppu := { s.ppu with dma := v }, ram := m } ∧
    (∀ i : Nat, i < 160 →
      m.read (0xFE00 + i) = State.memRead { s with ppu := { s.ppu with dma := v } } (v ++ BitVec.ofNat 8 i)) ∧
    (∀ y : Nat, y < 0xFE00 ∨ 0xFEA0 ≤ y → m.read y = s.ram.read y) := by
  obtain ⟨copied, kept⟩ := State.dmaPrefix_ram { s with ppu := { s.ppu with dma := v } } v (Nat.le_refl 160)
  exact ⟨_, State.dmaBytes_only_ram v _ _, copied, kept⟩

/-- Settles O39: the store by mode, and the copy by induction on the bytes copied. -/
theorem oamWritesAndDma : Obligations.OamWritesAndDma := by
  unfold Obligations.OamWritesAndDma
  refine ⟨fun s a v low high => ?_, fun s v => ?_⟩
  · rw [s.memWrite_oam v low (by omega)]
    exact ⟨fun mode => State.writeOam_transfer mode _ v,
      fun mode => ⟨State.writeOam_oamSearch mode _ v, fun inv => Ppu.scanOffset_lt inv mode⟩,
      fun mode => State.writeOam_blank mode _ v⟩
  · obtain ⟨m, result, copied, kept⟩ := s.oamDma_spec v
    exact ⟨m, (s.memWrite_register 0x46 v).trans result, copied, kept⟩

end Sys2Proof.Machine

/-! # What a store leaves and which reads it reaches (20_memory.md R76, R90 to R96) -/

namespace Sys2Proof.Machine

/-- Settles O40: a store writes behind the bus only, and of the cartridge not its configuration. -/
theorem storeKeepsRest : Obligations.StoreKeepsRest := by
  unfold Obligations.StoreKeepsRest
  intro s a v
  have cart := s.memWrite_cartConfig a v
  simp only [State.cartConfig, CartConfig.mk.injEq] at cart
  obtain ⟨rom, romSize, ramSize, battery, kind⟩ := cart
  refine ⟨?_, kind⟩
  rw [State.rest, rom, romSize, ramSize, battery, s.memWrite_busOnly a v]
  rfl

/-! ### What the writes of LCDC, DIV and TAC touch beside their own register -/

/-- An edge check writes TIMA, the pending reload, the previous signal and IF (61_timer.md R462). -/
theorem Timer.edgeCheck_only (p : Params) (t : Timer) (iflag : BitVec 5) :
    ∃ (tima : Byte) (prev : Bool) (countdown : Nat) (requested : BitVec 5), t.edgeCheck p iflag =
      ({ t with tima := tima, prevSignal := prev, reloadCountdown := countdown }, requested) := by
  unfold Timer.edgeCheck Timer.increment
  repeat' split
  all_goals exact ⟨_, _, _, _, rfl⟩

/-- Its edges write what 62_ppu.md R490 to R492 list. -/
theorem Ppu.writeLcdc_only (params : Params) (p : Ppu) (v : Byte) (iflag : BitVec 5) :
    ∃ (ly windowLine : Byte) (mode : PpuMode) (cycleCount enableDelay : Nat) (windowDrawn coincidence : Bool)
      (requested : BitVec 5), p.writeLcdc params v iflag =
      ({ p with lcdc := v, ly := ly, windowLine := windowLine, mode := mode, cycleCount := cycleCount,
                enableDelay := enableDelay, windowDrawn := windowDrawn, coincidence := coincidence }, requested) := by
  unfold Ppu.writeLcdc Ppu.enableLcd Ppu.disableLcd Ppu.updateCoincidence Ppu.enterOamSearch
  dsimp only
  repeat' split
  all_goals exact ⟨_, _, _, _, _, _, _, _, rfl⟩

/-! ### I/O registers a write does not reach -/

theorem mem_ioReach_apu {reg r : Nat} (hreg : 0x10 ≤ reg ∧ reg < 0x30) (hr : 0x10 ≤ r ∧ r < 0x30) :
    r ∈ ioReach reg := by
  unfold ioReach
  split
  case h_18 =>
    rw [if_pos hreg]
    exact List.mem_map.mpr ⟨r - 0x10, List.mem_range.mpr (by omega), by omega⟩
  all_goals omega

theorem mem_ioReach_wave {reg : Nat} (hreg : 0x30 ≤ reg ∧ reg < 0x40) : reg ∈ ioReach reg := by
  unfold ioReach
  split
  case h_18 =>
    rw [if_neg (by omega), if_pos hreg]
    exact List.mem_singleton.mpr rfl
  all_goals omega

theorem State.ioRead_setApu (s : State) (apu : Apu) {r : Nat} (h : ¬ (0x10 ≤ r ∧ r < 0x30)) :
    State.ioRead { s with apu := apu } r = s.ioRead r := by
  unfold State.ioRead
  split
  case h_19 => rw [if_neg h, if_neg h]
  all_goals rfl

/-- A register outside the reach of a write reads as before: a write that touches several registers comes down to the
fields it sets, and a read that sees one of those is of a register within the reach. -/
theorem State.ioRead_ioWrite_other (s : State) {reg r : Nat} (h : r ∉ ioReach reg) (v : Byte) :
    (s.ioWrite reg v).ioRead r = s.ioRead r := by
  unfold State.ioWrite
  split
  case h_18 =>
    by_cases sound : 0x10 ≤ reg ∧ reg < 0x30
    · rw [if_pos sound]
      exact s.ioRead_setApu _ (fun hr => h (mem_ioReach_apu sound hr))
    by_cases wave : 0x30 ≤ reg ∧ reg < 0x40
    · have other : r ≠ reg := by rintro rfl; exact h (mem_ioReach_wave wave)
      rw [if_neg sound, if_pos wave]
      exact s.ioRead_setRam (Memory.read_write_other _ (by omega) v)
    · rw [if_neg sound, if_neg wave]
  case' h_2 =>
    obtain ⟨_, _, _, _, check⟩ := Timer.edgeCheck_only s.params { s.timer with counter := 0 } s.iflag
    rw [Timer.writeDiv, check]
  case' h_5 =>
    obtain ⟨_, _, _, _, check⟩ := Timer.edgeCheck_only s.params { s.timer with tac := v.setWidth 3 } s.iflag
    rw [Timer.writeTac, check]
  case' h_7 =>
    obtain ⟨_, _, _, _, _, _, _, _, write⟩ := s.ppu.writeLcdc_only s.params v s.iflag
    rw [write]
  case' h_12 =>
    obtain ⟨m, copy, -, kept⟩ := s.oamDma_spec v
    rw [copy]
    refine (State.ioRead_setRam { s with ppu := { s.ppu with dma := v } } (kept _ (by omega))).trans ?_
  all_goals
    unfold State.ioRead
    split
    any_goals rfl
    all_goals exact absurd (by decide) h

/-- The DMA copy writes OAM and a wave RAM write its own byte; no other write reaches the arrays. -/
theorem State.ioWrite_ram_other (s : State) {reg c : Nat} (hreg : reg < 0x80) (noIo : c < 0xFF00 ∨ 0xFF80 ≤ c)
    (noOam : reg = 0x46 → c < 0xFE00 ∨ 0xFEA0 ≤ c) (v : Byte) : (s.ioWrite reg v).ram.read c = s.ram.read c := by
  have other : c ≠ 0xFF00 + reg := by omega
  unfold State.ioWrite
  split
  case h_12 =>
    obtain ⟨m, copy, -, kept⟩ := s.oamDma_spec v
    rw [copy]
    exact kept c (noOam rfl)
  case h_18 =>
    split
    · rfl
    · split
      · exact Memory.read_write_other _ other v
      · rfl
  all_goals rfl

/-- Only LCDC's edges change the mode (62_ppu.md R490, R491). -/
theorem State.ioWrite_mode (s : State) {reg : Nat} (h : reg ≠ 0x40) (v : Byte) :
    (s.ioWrite reg v).ppu.mode = s.ppu.mode := by
  unfold State.ioWrite
  split
  case h_7 => exact absurd rfl h
  case h_12 =>
    obtain ⟨m, copy, -, -⟩ := s.oamDma_spec v
    rw [copy]
  case h_18 =>
    split
    · rfl
    · split <;> rfl
  all_goals rfl

theorem State.memRead_ioWrite_other (s : State) {reg : Nat} {y : Word} (hreg : reg < 0x80)
    (h : ioReaches reg y.toNat = false) (v : Byte) : (s.ioWrite reg v).memRead y = s.memRead y := by
  have only := s.ioWrite_devicesOnly reg v
  refine State.SameAt.memRead_eq ⟨fun _ => by rw [only.cart], fun _ => by rw [only.cart], fun gated => ?_,
    fun noIo => ?_, fun io => ?_, fun _ => by rw [only]⟩
  · refine s.ioWrite_mode ?_ v
    rintro rfl
    obtain region | region := gated <;> simp [ioReaches, region] at h
  · have outside : ¬ (0xFF00 ≤ y.toNat ∧ y.toNat < 0xFF80) := fun ⟨low, high⟩ => noIo (regionOf_io low high)
    have noDma (dma : reg = 0x46) : ¬ (0xFE00 ≤ y.toNat ∧ y.toNat < 0xFEA0) := by
      rintro ⟨low, high⟩
      simp [ioReaches, regionOf_oam low high, dma] at h
    refine s.ioWrite_ram_other hreg ?_ (fun dma => ?_) v
    · unfold unecho; split <;> omega
    · have noOam := noDma dma
      unfold unecho; split <;> omega
  · refine s.ioRead_ioWrite_other ?_ v
    simpa [ioReaches, io] using h

/-! ### The cartridge's windows and IE (20_memory.md R91, R93; 64_cartridge.md R592, R594, R597) -/

theorem Cartridge.readRom_writeRam (c : Cartridge) (a y : Nat) (v : Byte) :
    (c.writeRam a v).readRom y = c.readRom y := by
  unfold Cartridge.writeRam; split <;> rfl

/-- Another offset of the external RAM reads as before. -/
theorem Cartridge.readRam_writeRam_other (c : Cartridge) {a y : Nat} (h : c.ramOffset y ≠ c.ramOffset a) (v : Byte) :
    (c.writeRam a v).readRam y = c.readRam y := by
  unfold Cartridge.writeRam
  split
  case h_1 => rfl
  case h_2 off stored =>
    have same : ({ c with xram := c.xram.write off (c.cell v) } : Cartridge).ramOffset y = c.ramOffset y := rfl
    simp only [Cartridge.readRam, same]
    cases read : c.ramOffset y with
    | none => rfl
    | some o =>
      have other : o ≠ off := fun e => h (by rw [read, stored, e])
      simp only [Memory.read_write_other _ other]

theorem State.ioRead_setCart (s : State) (c : Cartridge) (reg : Nat) :
    State.ioRead { s with cart := c } reg = s.ioRead reg := rfl

theorem State.memRead_setCart (s : State) {c : Cartridge} {y : Word}
    (rom : regionOf y.toNat = .rom → c.readRom y.toNat = s.cart.readRom y.toNat)
    (xram : regionOf y.toNat = .xram → c.readRam y.toNat = s.cart.readRam y.toNat) :
    State.memRead { s with cart := c } y = s.memRead y :=
  State.SameAt.memRead_eq ⟨rom, xram, fun _ => rfl, fun _ => rfl, fun _ => s.ioRead_setCart c _, fun _ => rfl⟩

theorem State.ioRead_setIe (s : State) (v : Byte) (reg : Nat) :
    State.ioRead { s with ie := v } reg = s.ioRead reg := rfl

theorem State.memRead_setIe (s : State) {y : Word} (h : y ≠ 0xFFFF) (v : Byte) :
    State.memRead { s with ie := v } y = s.memRead y := by
  refine State.SameAt.memRead_eq ⟨fun _ => rfl, fun _ => rfl, fun _ => rfl, fun _ => rfl,
    fun _ => s.ioRead_setIe v _, fun r => ?_⟩
  have last := regionOf_bounds y.toNat
  rw [r] at last
  exact absurd (BitVec.eq_of_toNat_eq (by simp only [BitVec.reduceToNat]; omega)) h

/-! ### One store -/

/-- Outside WRAM and its echo an address has its cell for itself (R84). -/
theorem unecho_ne {a y : Word} (other : y ≠ a) (single : a.toNat < 0xC000 ∨ 0xFE00 ≤ a.toNat) :
    unecho y.toNat ≠ a.toNat := by
  have other : y.toNat ≠ a.toNat := fun e => other (BitVec.eq_of_toNat_eq e)
  unfold unecho
  split <;> omega

/-- Settles O41: by the region stored to, each store through the one thing it changes. -/
theorem storeReach : Obligations.StoreReach := by
  unfold Obligations.StoreReach
  intro s a y v h
  have bounds := regionOf_bounds a.toNat
  simp only [State.memWrite]
  unfold State.storeReaches at h
  cases region : regionOf a.toNat <;>
    simp only [region, Bool.or_eq_false_iff, Bool.and_eq_false_iff, decide_eq_false_iff_not] at h bounds ⊢
  case rom =>
    obtain ⟨noRom, noXram⟩ := h
    exact s.memRead_setCart (fun r => absurd r noRom) (fun r => absurd r noXram)
  case vram =>
    split
    · exact s.memRead_writeArray_other (unecho_ne h (by omega)) v
    · rfl
  case xram =>
    refine s.memRead_setCart (fun _ => s.cart.readRom_writeRam _ _ v) (fun r => ?_)
    exact s.cart.readRam_writeRam_other (h.resolve_left (not_not_intro r)) v
  case wram =>
    rw [unecho_of_not_echo (a := a.toNat) (by simp [region])] at h
    exact s.memRead_writeArray_other h v
  case echo =>
    rw [unecho_of_echo region] at h
    exact s.memRead_writeArray_other h v
  case oam =>
    obtain kept | ⟨w, stored⟩ := s.writeOam_cases a.toNat v
    · rw [kept]
    · rw [stored]
      exact s.memRead_writeArray_other (unecho_ne h (by omega)) w
  case io => exact s.memRead_ioWrite_other (by omega) h v
  case hram => exact s.memRead_writeArray_other (unecho_ne h (by omega)) v
  case ie =>
    have last : a = 0xFFFF := BitVec.eq_of_toNat_eq (by simp only [BitVec.reduceToNat]; omega)
    exact s.memRead_setIe (last ▸ h) v

end Sys2Proof.Machine

/-! # The joypad register and the input events (60_exceptions.md R440 to R443) -/

namespace Sys2Proof.Machine

/-! ### P1 bit by bit (R441) -/

/-- The bits above the button lines: 1, 1 and the select. -/
theorem joypadByte_high (select : BitVec 2) (buttons : Byte) {k : Nat} (hk : 4 ≤ k) :
    (joypadByte select buttons).getLsbD k =
      if k - 4 < 2 then select.getLsbD (k - 4) else (0b11#2).getLsbD (k - 4 - 2) := by
  simp only [joypadByte]
  rw [BitVec.getLsbD_append, if_neg (by omega), BitVec.getLsbD_append]

/-- A line of a group is high when the group is not selected or the button is up. -/
theorem joypadGroup_getLsbD (off : Bool) (lines : BitVec 4) {k : Nat} (hk : k < 4) :
    (if off then 0xF else lines).getLsbD k = (off || lines.getLsbD k) := by
  cases off with
  | false => rfl
  | true => exact (BitVec.getLsbD_allOnes (v := 4)).trans (decide_eq_true hk)

theorem joypadByte_low (select : BitVec 2) (buttons : Byte) {k : Nat} (hk : k < 4) :
    (joypadByte select buttons).getLsbD k =
      ((select.getLsbD 0 || buttons.getLsbD k) && (select.getLsbD 1 || buttons.getLsbD (k + 4))) := by
  have directions : (buttons.setWidth 4).getLsbD k = buttons.getLsbD k := by simp [hk]
  have actions : (buttons.extractLsb' 4 4).getLsbD k = buttons.getLsbD (k + 4) := by simp [hk, Nat.add_comm]
  simp only [joypadByte]
  rw [BitVec.getLsbD_append, if_pos hk, BitVec.getLsbD_and, joypadGroup_getLsbD _ _ hk, joypadGroup_getLsbD _ _ hk,
    directions, actions]

/-! ### Input events (R443) -/

/-- No button goes down when every button up before is up after. -/
theorem pressed_eq_zero_iff (before after : Byte) :
    before &&& ~~~after = 0 ↔ ∀ k : Fin 8, before.getLsbD k.val = true → after.getLsbD k.val = true := by
  rw [BitVec.eq_of_getLsbD_eq_iff]
  constructor
  · intro h k up
    have bit := h k.val k.isLt
    simpa [up] using bit
  · intro h k hk
    cases up : before.getLsbD k with
    | false => simp [up]
    | true => simp [h ⟨k, hk⟩ up]

theorem State.applyInput_pressed (s : State) {b : Byte} (h : s.buttons &&& ~~~b ≠ 0) :
    s.applyInput b = { s with buttons := b, iflag := s.iflag ||| 16#5 } := by
  rw [State.applyInput, decide_eq_true h]; rfl

theorem State.applyInput_notPressed (s : State) {b : Byte} (h : s.buttons &&& ~~~b = 0) :
    s.applyInput b = { s with buttons := b } := by
  rw [State.applyInput, decide_eq_false (not_not_intro h)]; rfl

/-- An event neither reads nor writes the queue. -/
theorem State.foldl_applyInput_setQueue (l queue : List Byte) (s : State) :
    l.foldl State.applyInput { s with inputQueue := queue } =
      { l.foldl State.applyInput s with inputQueue := queue } := by
  induction l generalizing s with
  | nil => rfl
  | cons b l ih => exact ih (s.applyInput b)

/-- The event queued last is applied last. -/
theorem State.queueInput_applyInputs (s : State) (b : Byte) :
    (s.queueInput b).applyInputs = s.applyInputs.applyInput b := by
  simp only [State.applyInputs, State.queueInput, State.foldl_applyInput_setQueue, List.foldl_append, List.foldl_cons,
    List.foldl_nil]
  rfl

/-- Settles O43: the register bit by bit, the events by whether a button goes down. -/
theorem joypadRegister : Obligations.JoypadRegister := by
  unfold Obligations.JoypadRegister
  intro s v b
  have read : s.memRead 0xFF00 = joypadByte s.joypSelect s.buttons := s.memRead_register 0x00
  refine ⟨?_, s.memWrite_register 0x00 v, s.queueInput_applyInputs b, fun ⟨k, up, down⟩ => ?_, fun still => ?_⟩
  · rw [read]
    have high {k : Nat} (hk : 4 ≤ k) := joypadByte_high s.joypSelect s.buttons hk
    refine ⟨high (by decide), high (by decide), high (by decide), high (by decide), fun k hk => ?_⟩
    rw [joypadByte_low _ _ hk, Bool.and_eq_false_iff, Bool.or_eq_false_iff, Bool.or_eq_false_iff]
  · refine s.applyInput_pressed fun none => ?_
    rw [(pressed_eq_zero_iff s.buttons b).mp none k up] at down
    cases down
  · exact s.applyInput_notPressed ((pressed_eq_zero_iff s.buttons b).mpr still)

end Sys2Proof.Machine

/-! # Encoder and decoder (30_encoding.md R130 to R147) -/

namespace Sys2Proof

/-! ### The two bytes of a word (20_memory.md R71) -/

@[simp] theorem loByte_wordOf (lo hi : Byte) : loByte (wordOf lo hi) = lo :=
  BitVec.extractLsb'_append_eq_right

@[simp] theorem hiByte_wordOf (lo hi : Byte) : hiByte (wordOf lo hi) = hi :=
  BitVec.extractLsb'_append_eq_left

/-- A byte is one of 256 numerals, to be looked up in the opcode maps. -/
theorem byte_eq_ofNat (b : Byte) : ∃ k < 256, b = BitVec.ofNat 8 k := ⟨b.toNat, b.isLt, by simp⟩

/-! ### From an instruction to its bytes and back -/

theorem decode_encode {i : Instr} (wf : i.wellFormed = true) (rest : List Byte) :
    decode (encode i ++ rest) = .ok (i, rest) := by
  cases i with
  | prefix_cb => cases wf
  | ld_bc_nn nn | ld_atNn_sp nn | ld_de_nn nn | ld_hl_nn nn | ld_sp_nn nn | jp_nz_nn nn | jp_nn nn | call_nz_nn nn
  | jp_z_nn nn | call_z_nn nn | call_nn nn | jp_nc_nn nn | call_nc_nn nn | jp_c_nn nn | call_c_nn nn | ld_atNn_a nn
  | ld_a_atNn nn =>
    conv_rhs => rw [← Machine.wordOf_lo_hi nn]
    rfl
  | _ => rfl

/-! ### From bytes to an instruction and back -/

/-- A decoded instruction is the table entry of the first three bytes, and its length says how many of them it takes. -/
theorem decode_eq_ok {bytes rest : List Byte} {i : Instr} (h : decode bytes = .ok (i, rest)) :
    ∃ op n1 n2 : Byte, i = decodeOp op n1 n2 ∧ bytes = [op, n1, n2].take (instrLength op) ++ rest := by
  cases bytes with
  | nil => cases h
  | cons op tail =>
    simp only [decode] at h
    split at h
    case h_1 n1 n2 after len => cases h; exact ⟨op, n1, n2, rfl, by rw [len]; rfl⟩
    case h_2 n1 after len => cases h; exact ⟨op, n1, 0, rfl, by rw [len]; rfl⟩
    case h_3 len => cases h; exact ⟨op, 0, 0, rfl, by rw [len]; rfl⟩
    case h_4 => cases h

/-- Every entry of the CB map encodes to 0xCB and the byte it stands under. -/
theorem encode_decodeCb (cbop : Byte) : (decodeCb cbop).wellFormed = true ∧ encode (decodeCb cbop) = [0xCB, cbop] := by
  revert cbop; decide

/-- Every entry of the primary map but that of 0xCB encodes to its opcode and the operand bytes it was given, two of
them by way of the 16-bit operand they make up. -/
theorem encode_decodeOp_unprefixed {op : Byte} (n1 n2 : Byte) (h : op ≠ 0xCB) :
    (decodeOp op n1 n2).wellFormed = true ∧
    encode (decodeOp op n1 n2) =
      if instrLength op = 3 then [op, loByte (wordOf n1 n2), hiByte (wordOf n1 n2)]
      else [op, n1].take (instrLength op) := by
  obtain ⟨k, hk, rfl⟩ := byte_eq_ofNat op
  have unprefixed : k ≠ 203 := fun cb => h (congrArg (BitVec.ofNat 8) cb)
  obtain below | above := Nat.lt_or_gt_of_ne unprefixed
  · interval_cases k <;> exact ⟨rfl, rfl⟩
  · interval_cases k <;> exact ⟨rfl, rfl⟩

theorem instrLength_bounds (op : Byte) : 1 ≤ instrLength op ∧ instrLength op ≤ 3 := by
  unfold instrLength
  split_ifs <;> decide

/-- The table entry of three bytes is well-formed and encodes to those of them that `instrLength` counts. -/
theorem encode_decodeOp (op n1 n2 : Byte) :
    (decodeOp op n1 n2).wellFormed = true ∧ encode (decodeOp op n1 n2) = [op, n1, n2].take (instrLength op) := by
  by_cases cb : op = 0xCB
  · subst cb
    exact encode_decodeCb n1
  · obtain ⟨wf, bytes⟩ := encode_decodeOp_unprefixed n1 n2 cb
    refine ⟨wf, bytes.trans ?_⟩
    split
    case isTrue three => rw [three, loByte_wordOf, hiByte_wordOf]; rfl
    case isFalse notThree =>
      have short : instrLength op ≤ [op, n1].length := by
        have bounds := instrLength_bounds op
        rw [List.length_cons, List.length_singleton]
        omega
      exact (List.take_append_of_le_length (l₂ := [n2]) short).symm

/-- An encoding has the length that its first byte gives. -/
theorem encode_eq_take {i : Instr} (wf : i.wellFormed = true) :
    ∃ op n1 n2 : Byte, encode i = [op, n1, n2].take (instrLength op) := by
  obtain ⟨op, n1, n2, -, bytes⟩ := decode_eq_ok (decode_encode wf [])
  exact ⟨op, n1, n2, List.append_cancel_right bytes⟩

/-- Settles O1, by the constructors: the two bytes of a 16-bit operand make it up again, all else is computed. -/
theorem decodeOfEncode : Obligations.DecodeOfEncode := by
  unfold Obligations.DecodeOfEncode
  exact fun i rest wf => decode_encode wf rest

/-- Settles O2: the table entry of three bytes encodes to the bytes it takes, and `decode_encode` reads it back. -/
theorem encodeOfDecode : Obligations.EncodeOfDecode := by
  unfold Obligations.EncodeOfDecode
  refine ⟨fun bytes i rest h => ?_, fun b0 b1 b2 => ?_⟩
  · obtain ⟨op, n1, n2, rfl, rfl⟩ := decode_eq_ok h
    obtain ⟨wf, taken⟩ := encode_decodeOp op n1 n2
    exact ⟨wf, by rw [taken]⟩
  · obtain ⟨wf, taken⟩ := encode_decodeOp b0 b1 b2
    have back := decode_encode wf ([b0, b1, b2].drop (instrLength b0))
    rw [taken, List.take_append_drop] at back
    exact ⟨_, _, back⟩

/-- Settles O3: the bytes are as many as `instrLength` of the first. -/
theorem lengthByFirstByte : Obligations.LengthByFirstByte := by
  unfold Obligations.LengthByFirstByte
  intro i wf
  obtain ⟨op, n1, n2, bytes⟩ := encode_eq_take wf
  have bounds := instrLength_bounds op
  refine ⟨op, [n1, n2].take (instrLength op - 1), ?_, ?_⟩
  · rw [bytes, ← List.take_succ_cons, Nat.sub_add_cancel bounds.1]
  · rw [List.length_take, List.length_cons, List.length_singleton]
    have count : 1 + min (instrLength op - 1) (1 + 1) = instrLength op := by omega
    rw [count]
    clear bytes bounds count
    revert op
    decide

end Sys2Proof

/-! ### The byte 0xCB and its map (R141, R147) -/

namespace Sys2Proof.Machine

theorem exec_rotInstr (op : RotOp) (t : Target) (s : State) : exec (rotInstr op t) s = rotateTarget op t s := by
  cases t with
  | atHl => cases op <;> rfl
  | reg r => cases op <;> cases r <;> rfl

theorem exec_bitInstr (b : Fin 8) (t : Target) (s : State) : exec (bitInstr b t) s = bitTest b t s := by
  cases t with
  | atHl => fin_cases b <;> rfl
  | reg r => fin_cases b <;> cases r <;> rfl

theorem exec_resInstr (b : Fin 8) (t : Target) (s : State) : exec (resInstr b t) s = bitReset b t s := by
  cases t with
  | atHl => fin_cases b <;> rfl
  | reg r => fin_cases b <;> cases r <;> rfl

theorem exec_setInstr (b : Fin 8) (t : Target) (s : State) : exec (setInstr b t) s = bitSet b t s := by
  cases t with
  | atHl => fin_cases b <;> rfl
  | reg r => fin_cases b <;> cases r <;> rfl

/-- The CB-table entry of a second byte by its fields x, y and z (R132). -/
def cbInstr (cbop : Byte) : Instr :=
  let y := cbop.toNat / 8 % 8
  let b : Fin 8 := ⟨y, Nat.mod_lt _ (by decide)⟩
  let t := Target.ofCode (cbop.toNat % 8)
  match cbop.toNat / 64 with
  | 0 => rotInstr (RotOp.ofCode y) t
  | 1 => bitInstr b t
  | 2 => resInstr b t
  | _ => setInstr b t

/-- The map by rows and columns is the map by fields. -/
theorem decodeCb_eq_cbInstr (cbop : Byte) : decodeCb cbop = cbInstr cbop := by
  obtain ⟨k, hk, rfl⟩ := byte_eq_ofNat cbop
  interval_cases k <;> rfl

theorem exec_decodeCb (cbop : Byte) (s : State) : exec (decodeCb cbop) s = cbEntry cbop s := by
  rw [decodeCb_eq_cbInstr]
  simp only [cbInstr, cbEntry]
  generalize cbop.toNat / 64 = x
  match x with
  | 0 => exact exec_rotInstr ..
  | 1 => exact exec_bitInstr ..
  | 2 => exact exec_resInstr ..
  | _ + 3 => exact exec_setInstr ..

/-- Settles O36: the meaning of bare 0xCB and that of the table entry are both the operation of the byte's fields. -/
theorem prefixIsItsTableEntry : Obligations.PrefixIsItsTableEntry := by
  unfold Obligations.PrefixIsItsTableEntry
  intro cbop s
  obtain ⟨t, next, -⟩ := cbEntry_ends (s := s) cbop
  exact ⟨decodeCb cbop, t, rfl, next, (exec_decodeCb cbop s).trans next⟩

end Sys2Proof.Machine

/-! ### The 8-bit loads and stores (40_load8.md R200 to R218) -/

namespace Sys2Proof.Machine

theorem State.memWrite_regs (s : State) (a : Word) (v : Byte) : (s.memWrite a v).regs = s.regs := by
  rw [s.memWrite_busOnly a v]

/-- An address of the high page is the byte 0xFF over the low byte. -/
theorem highPage_eq_append (n : Byte) : highPage n = 0xFF#8 ++ n := by revert n; decide

/-- HL is read before A is written, and A is not part of it. -/
theorem loadAMove_next (m : Word) (s : State) :
    loadAMove m s = .next { (s.setR .a (s.memRead s.hl)).setHl (s.hl + m) with tcycles := 8 } := rfl

/-- The store leaves HL alone, so it is the old HL that moves. -/
theorem storeAMove_next (m : Word) (s : State) :
    storeAMove m s = .next { s.memWrite s.hl (s.getR .a) with
      regs := { s.regs with h := hiByte (s.hl + m), l := loByte (s.hl + m) }, tcycles := 8 } := by
  simp only [storeAMove, finish_next, State.setHl, State.hl, State.memWrite_regs]

theorem exec_ldInstr (dst src : Reg8) (s : State) : exec (ldInstr dst src) s = loadReg dst src s := by
  cases dst <;> cases src <;> rfl

theorem exec_ldImmInstr (dst : Reg8) (n : Byte) (s : State) : exec (ldImmInstr dst n) s = loadImm dst n s := by
  cases dst <;> rfl

theorem exec_ldAtHlInstr (dst : Reg8) (s : State) : exec (ldAtHlInstr dst) s = loadAtHl dst s := by
  cases dst <;> rfl

theorem exec_stAtHlInstr (r : Reg8) (s : State) : exec (stAtHlInstr r) s = storeAtHl r s := by
  cases r <;> rfl

/-- Settles O14: each form is one load operation, and each operation answers one next state. -/
theorem loadByte : Obligations.LoadByte := by
  unfold Obligations.LoadByte
  refine ⟨fun dst src n s => ⟨?_, ?_, ?_⟩, fun n nn s => ⟨?_, ?_, ?_, ?_, ?_, ?_, ?_⟩⟩
  · exact (exec_ldInstr dst src s).trans (loadReg_next dst src s)
  · exact (exec_ldImmInstr dst n s).trans (loadImm_next dst n s)
  · exact (exec_ldAtHlInstr dst s).trans (loadAtHl_next dst s)
  · exact loadA_next 8 s.bc s
  · exact loadA_next 8 s.de s
  · exact loadA_next 16 nn s
  · rw [← highPage_eq_append]; exact loadA_next 12 (highPage n) s
  · rw [← highPage_eq_append]; exact loadA_next 8 (highPage s.regs.c) s
  · exact loadAMove_next 1 s
  · rw [BitVec.sub_eq_add_neg]; exact loadAMove_next (-1) s

/-- Settles O15: each form is one store operation, and a store leaves every register alone. -/
theorem storeByte : Obligations.StoreByte := by
  unfold Obligations.StoreByte
  intro r n nn s
  refine ⟨?_, ?_, ?_, ?_, ?_, ?_, ?_, ?_, ?_⟩
  · exact (exec_stAtHlInstr r s).trans (storeAtHl_next r s)
  · exact finish_next 12 (s.memWrite s.hl n)
  · exact storeA_next 8 s.bc s
  · exact storeA_next 8 s.de s
  · exact storeA_next 16 nn s
  · rw [← highPage_eq_append]; exact storeA_next 12 (highPage n) s
  · rw [← highPage_eq_append]; exact storeA_next 8 (highPage s.regs.c) s
  · exact storeAMove_next 1 s
  · rw [BitVec.sub_eq_add_neg]; exact storeAMove_next (-1) s

end Sys2Proof.Machine

/-! # The stack and the 16-bit loads (41_load16_stack.md R230 to R237; 45_control.md R306, R307, R312) -/

namespace Sys2Proof.Machine

/-! ### SP and the bus -/

theorem State.SameBus.ioRead_eq {t u : State} (same : t.SameBus u) (reg : Nat) : u.ioRead reg = t.ioRead reg := by
  rw [same]; unfold State.ioRead; rfl

/-- No read sees the CPU's own registers. -/
theorem State.SameBus.memRead_eq {t u : State} (same : t.SameBus u) (a : Word) : u.memRead a = t.memRead a :=
  State.SameAt.memRead_eq ⟨fun _ => by rw [same], fun _ => by rw [same], fun _ => by rw [same],
    fun _ => by rw [same], fun _ => same.ioRead_eq _, fun _ => by rw [same]⟩

theorem State.memRead_setSp (s : State) (sp a : Word) : State.memRead { s with sp := sp } a = s.memRead a :=
  State.SameBus.memRead_eq (u := { s with sp := sp }) rfl a

theorem State.dmaByte_setSp (s : State) (sp : Word) (v : Byte) (i : Nat) :
    State.dmaByte v { s with sp := sp } i = { State.dmaByte v s i with sp := sp } := by
  simp only [State.dmaByte, State.memRead_setSp]
  rfl

theorem State.dmaBytes_setSp (l : List Nat) (s : State) (sp : Word) (v : Byte) :
    l.foldl (State.dmaByte v) { s with sp := sp } = { l.foldl (State.dmaByte v) s with sp := sp } := by
  induction l generalizing s with
  | nil => rfl
  | cons i l ih => rw [List.foldl_cons, List.foldl_cons, State.dmaByte_setSp, ih]

theorem State.oamDma_setSp (s : State) (sp : Word) (v : Byte) :
    State.oamDma { s with sp := sp } v = { s.oamDma v with sp := sp } := by
  unfold State.oamDma
  exact State.dmaBytes_setSp _ { s with ppu := { s.ppu with dma := v } } sp v

theorem State.writeOam_setSp (s : State) (sp : Word) (a : Nat) (v : Byte) :
    State.writeOam { s with sp := sp } a v = { s.writeOam a v with sp := sp } := by
  unfold State.writeOam
  cases s.ppu.mode <;> rfl

theorem State.ioWrite_setSp (s : State) (sp : Word) (reg : Nat) (v : Byte) :
    State.ioWrite { s with sp := sp } reg v = { s.ioWrite reg v with sp := sp } := by
  unfold State.ioWrite
  split
  case h_12 => exact s.oamDma_setSp sp v
  case h_18 =>
    split
    · rfl
    · split <;> rfl
  all_goals rfl

/-- A store neither reads nor writes SP. -/
theorem State.memWrite_setSp (s : State) (sp a : Word) (v : Byte) :
    State.memWrite { s with sp := sp } a v = { s.memWrite a v with sp := sp } := by
  simp only [State.memWrite]
  split
  case h_2 =>
    split
    case isTrue opened => rw [if_pos (show s.vramOpen = true from opened)]; rfl
    case isFalse closed => rw [if_neg (show ¬ s.vramOpen = true from closed)]
  case h_6 => exact s.writeOam_setSp sp _ v
  case h_8 => exact s.ioWrite_setSp sp _ v
  all_goals rfl

/-! ### The push (R236) -/

theorem State.pushByte_eq (s : State) (v : Byte) : s.pushByte v = { s.memWrite (s.sp - 1) v with sp := s.sp - 1 } :=
  s.memWrite_setSp (s.sp - 1) (s.sp - 1) v

/-- Both stores are made as if SP stood still. -/
theorem State.push16_eq (s : State) (v : Word) :
    s.push16 v = { (s.memWrite (s.sp - 1) (hiByte v)).memWrite (s.sp - 2) (loByte v) with sp := s.sp - 2 } := by
  have two : s.sp - 1 - 1 = s.sp - 2 := by bv_omega
  rw [State.push16, State.pushByte_eq, State.pushByte_eq, State.memWrite_setSp, two]

theorem State.push16_busOnly (s : State) (v : Word) : State.BusOnly { s with sp := s.sp - 2 } (s.push16 v) := by
  rw [State.push16_eq, State.memWrite_busOnly _ (s.sp - 2), State.memWrite_busOnly s]

@[simp] theorem State.push16_regs (s : State) (v : Word) : (s.push16 v).regs = s.regs := by rw [State.push16_busOnly]
@[simp] theorem State.push16_flags (s : State) (v : Word) : (s.push16 v).flags = s.flags := by rw [State.push16_busOnly]
@[simp] theorem State.push16_sp (s : State) (v : Word) : (s.push16 v).sp = s.sp - 2 := by rw [State.push16_busOnly]

/-! ### The call, and what a pop writes (R235, R306) -/

theorem State.call_eq (s : State) (target : Word) :
    s.call target = { (s.memWrite (s.sp - 1) (hiByte s.pc)).memWrite (s.sp - 2) (loByte s.pc) with
      sp := s.sp - 2, pc := target } := by
  rw [State.call, State.push16_eq]

/-- A pair written with its own value. -/
@[simp] theorem State.setStackPair_getStackPair (s : State) (p : StackPair) :
    s.setStackPair p (s.getStackPair p) = s := by
  cases p <;>
    simp [State.setStackPair, State.getStackPair, State.setBc, State.setDe, State.setHl, State.setAf, State.bc,
      State.de, State.hl, State.af]

/-- A pair's value depends on the registers and the flags alone. -/
theorem State.getStackPair_congr {s t : State} (regs : t.regs = s.regs) (flags : t.flags = s.flags) (p : StackPair) :
    t.getStackPair p = s.getStackPair p := by
  cases p <;> simp only [State.getStackPair, State.bc, State.de, State.hl, State.af, regs, flags]

theorem State.setStackPair_of_same {s t : State} (regs : t.regs = s.regs) (flags : t.flags = s.flags) (p : StackPair) :
    t.setStackPair p (s.getStackPair p) = t := by
  rw [← State.getStackPair_congr regs flags p, State.setStackPair_getStackPair]

theorem State.popped_eq (s : State) : s.popped = { s with sp := s.sp + 2 } := by
  have two : s.sp + 1 + 1 = s.sp + 2 := by bv_omega
  rw [State.popped, two]

theorem State.popValue_setTcycles (s : State) (n : Nat) : State.popValue { s with tcycles := n } = s.popValue := by
  have read (a : Word) : State.memRead { s with tcycles := n } a = s.memRead a :=
    State.SameBus.memRead_eq (u := { s with tcycles := n }) rfl a
  simp only [State.popValue, read]

/-! ### The pushed bytes, read back (R235) -/

section
variable {a : Word} (plain : regionOf a.toNat ∈ [Region.wram, Region.echo, Region.hram])
include plain

/-- A store to WRAM, its echo or HRAM goes to the cell behind the address. -/
theorem State.memWrite_plain (s : State) (v : Byte) : s.memWrite a v = s.writeArray (unecho a.toNat) v := by
  cases region : regionOf a.toNat <;> simp [region] at plain
  case echo => simp only [State.memWrite, region, unecho_of_echo region]
  case wram | hram => simp only [State.memWrite, region, unecho_of_not_echo (a := a.toNat) (by simp [region])]

/-- A read there shows that cell. -/
theorem State.memRead_plain (s : State) : s.memRead a = s.ram.read (unecho a.toNat) := by
  cases region : regionOf a.toNat <;> simp [region] at plain
  case echo => simp only [State.memRead, region, unecho_of_echo region]
  case wram | hram => simp only [State.memRead, region, unecho_of_not_echo (a := a.toNat) (by simp [region])]

theorem State.memRead_memWrite_plain (s : State) (v : Byte) : (s.memWrite a v).memRead a = v := by
  rw [State.memRead_plain plain, s.memWrite_plain plain]
  exact Memory.read_write_same ..

end

/-- The two bytes of a push never share a cell. -/
theorem unecho_below_ne (sp : Word) : unecho (sp - 1).toNat ≠ unecho (sp - 2).toNat := by
  have apart : (sp - 1).toNat = (sp - 2).toNat + 1 ∨ ((sp - 1).toNat = 0 ∧ (sp - 2).toNat = 0xFFFF) := by bv_omega
  generalize (sp - 1).toNat = upper at apart ⊢
  generalize (sp - 2).toNat = lower at apart ⊢
  unfold unecho
  split <;> split <;> omega

section
variable {s : State} (high : regionOf (s.sp - 1).toNat ∈ [Region.wram, Region.echo, Region.hram])
  (low : regionOf (s.sp - 2).toNat ∈ [Region.wram, Region.echo, Region.hram])
include high low

theorem State.memRead_push16 (v : Word) :
    (s.push16 v).memRead (s.sp - 1) = hiByte v ∧ (s.push16 v).memRead (s.sp - 2) = loByte v := by
  simp only [State.push16_eq, State.memRead_setSp]
  constructor
  · rw [State.memWrite_plain low, State.memRead_writeArray_other _ (unecho_below_ne s.sp),
      State.memRead_memWrite_plain high]
  · rw [State.memRead_memWrite_plain low]

theorem State.popValue_push16 (v : Word) : (s.push16 v).popValue = v := by
  obtain ⟨hi, lo⟩ := State.memRead_push16 high low v
  have above : s.sp - 2 + 1 = s.sp - 1 := by bv_omega
  rw [State.popValue, State.push16_sp, above, hi, lo, wordOf_lo_hi]

/-- The pop after a push takes SP back and writes nothing else. -/
theorem popPair_push16 (p : StackPair) (n : Nat) :
    popPair p { s.push16 (s.getStackPair p) with tcycles := n } =
      .next { s.push16 (s.getStackPair p) with sp := s.sp, tcycles := 12 } := by
  have value := State.popValue_push16 high low (s.getStackPair p)
  have kept := State.setStackPair_of_same (s := s)
    (t := { s.push16 (s.getStackPair p) with sp := s.sp, tcycles := n }) (s.push16_regs _) (s.push16_flags _) p
  have back : s.sp - 2 + 2 = s.sp := BitVec.sub_add_cancel ..
  rw [popPair_next, State.popValue_setTcycles, value, State.popped_eq]
  simp only [State.push16_sp, back, kept]

end

/-! ### The meanings, by the pair, the condition or the target they take -/

theorem exec_ldPairInstr (p : Pair) (nn : Word) (s : State) : exec (ldPairInstr p nn) s = loadPair p nn s := by
  cases p <;> rfl

theorem exec_pushInstr (p : StackPair) (s : State) : exec (pushInstr p) s = pushPair p s := by cases p <;> rfl

theorem exec_popInstr (p : StackPair) (s : State) : exec (popInstr p) s = popPair p s := by cases p <;> rfl

theorem exec_callInstr (cc : Cond) (nn : Word) (s : State) : exec (callInstr cc nn) s = callIf cc nn s := by
  cases cc <;> rfl

theorem exec_rstInstr (y : Fin 8) (s : State) : exec (rstInstr y) s = restart (BitVec.ofNat 16 (8 * y.val)) s := by
  fin_cases y <;> rfl

/-- Settles O18: a push is its two stores, a pop writes the two halves of the word it read. -/
theorem pushAndPop : Obligations.PushAndPop := by
  unfold Obligations.PushAndPop
  refine ⟨fun s hi lo p halves => ?_, fun s => ?_⟩
  · have pair : s.getStackPair p = wordOf lo hi := by
      cases p <;> obtain ⟨rfl, rfl⟩ := halves <;> rfl
    rw [exec_pushInstr, pushPair_next, pair, State.push16_eq, hiByte_wordOf, loByte_wordOf]
  · have pop (p : StackPair) : exec (popInstr p) s = .next
        { State.setStackPair { s with sp := s.sp + 2 } p (wordOf (s.memRead s.sp) (s.memRead (s.sp + 1))) with
          tcycles := 12 } := by
      rw [exec_popInstr, popPair_next, State.popped_eq, State.popValue]
    refine ⟨(pop .bc).trans ?_, (pop .de).trans ?_, (pop .hl).trans ?_, (pop .af).trans ?_⟩
    · simp only [State.setStackPair, State.setBc, hiByte_wordOf, loByte_wordOf]
    · simp only [State.setStackPair, State.setDe, hiByte_wordOf, loByte_wordOf]
    · simp only [State.setStackPair, State.setHl, hiByte_wordOf, loByte_wordOf]
    · simp only [State.setStackPair, State.setAf, hiByte_wordOf, loByte_wordOf, Flags.ofByte]

/-- Settles O19: the pop reads the pushed word, and the registers still hold it. -/
theorem pushPopRestores : Obligations.PushPopRestores := by
  unfold Obligations.PushPopRestores
  intro p s high low
  have push := (exec_pushInstr p s).trans (pushPair_next p s)
  have pop := (exec_popInstr p _).trans (popPair_push16 high low p 16)
  exact ⟨_, _, push, pop, s.push16_regs _, s.push16_flags _, rfl⟩

/-- Settles O27: each form is the call of its target, or nothing when the condition fails. -/
theorem callsAndRestarts : Obligations.CallsAndRestarts := by
  unfold Obligations.CallsAndRestarts
  rintro cc nn y s w taken rfl rfl
  refine ⟨?_, ?_, ?_⟩
  · have call : exec (.call_nn nn) s = .next { s.call nn with tcycles := 24 } := rfl
    rw [call, State.call_eq]
    rfl
  · rw [exec_callInstr, callIf_next, State.call_eq]
    rfl
  · rw [exec_rstInstr, restart_next, State.call_eq]
    rfl

end Sys2Proof.Machine

namespace Sys2Proof

/-- Settles O16: a pair's write takes the two halves of the word. (`Machine.loadPair` is the operation.) -/
theorem loadPair : Obligations.LoadPair := by
  unfold Obligations.LoadPair
  intro nn s
  have load (p : Machine.Pair) := (Machine.exec_ldPairInstr p nn s).trans (Machine.loadPair_next p nn s)
  exact ⟨load .bc, load .de, load .hl, load .sp, Machine.finish_next 20 (s.memWrite16 nn s.sp),
    Machine.finish_next 8 { s with sp := s.hl }⟩

end Sys2Proof

/-! # 8-bit arithmetic and logic (42_alu8.md R250 to R262) -/

namespace Sys2Proof.Machine

/-! ### The meanings, by the operation, the source or the register they take -/

theorem exec_aluInstr (op : AluOp) (src : Src8) (s : State) : exec (aluInstr op src) s = aluA op src s := by
  cases src with
  | reg r => cases op <;> cases r <;> rfl
  | atHl => cases op <;> rfl
  | imm n => cases op <;> rfl

theorem exec_incInstr (r : Reg8) (s : State) : exec (incInstr r) s = incReg r s := by cases r <;> rfl

theorem exec_decInstr (r : Reg8) (s : State) : exec (decInstr r) s = decReg r s := by cases r <;> rfl

/-- The next state, by the operand and the T-cycles of the source (R250). -/
theorem exec_aluInstr_next {src : Src8} {s : State} {v : Byte} {n : Nat} (operand : v = src.value s ∧ n = src.cycles)
    (op : AluOp) :
    exec (aluInstr op src) s = .next { s with
      regs := { s.regs with a := (op.apply s.regs.a v s.flags).value },
      flags := (op.apply s.regs.a v s.flags).flags, tcycles := n } := by
  obtain ⟨rfl, rfl⟩ := operand
  exact (exec_aluInstr op src s).trans (aluA_next op src s)

/-! ### The results and their flags (R251 to R262) -/

/-- The carry as a number, as R252 and R254 add and subtract it. -/
theorem carry_toNat (c : Bool) : (if c then 1 else 0) = c.toNat := (Bool.cond_eq_ite ..).symm

theorem sub_sub_ofNat_eq_ofInt (a v : Byte) (k : Nat) :
    a - v - BitVec.ofNat 8 k = BitVec.ofInt 8 ((a.toNat : Int) - v.toNat - k) := by
  bv_omega

theorem byte_ofInt_eq_zero_iff (t : Int) : BitVec.ofInt 8 t = 0 ↔ t % 256 = 0 := by
  bv_omega

/-- The byte and its Z are those of the difference over the integers (R253, R254). -/
theorem subWith_eq_ofInt {a v : Byte} {c : Bool} {t : Int} (difference : t = (a.toNat : Int) - v.toNat - c.toNat) :
    subWith a v c =
      { value := BitVec.ofInt 8 t,
        flags := { z := decide (t % 256 = 0), n := true,
                   h := decide (nibble a < nibble v + c.toNat), c := decide (a.toNat < v.toNat + c.toNat) } } := by
  simp only [subWith, sub_sub_ofNat_eq_ofInt, byte_ofInt_eq_zero_iff, difference]

/-- Without a borrow the difference is 0 exactly between equals (R258). -/
theorem subWith_false_flags (a v : Byte) :
    (subWith a v false).flags =
      { z := decide (a = v), n := true, h := decide (nibble a < nibble v), c := decide (a.toNat < v.toNat) } := by
  simp [subWith, BitVec.sub_eq_iff_eq_add]

theorem inc8_eq (v : Byte) (f : Flags) :
    inc8 v f = { value := v + 1,
                 flags := { f with z := decide (v = 0xFF), n := false, h := decide (v.toNat % 16 = 15) } } := by
  have wraps : v + 1 = 0 ↔ v = 0xFF := by bv_omega
  have carries : nibble (v + 1) = 0 ↔ v.toNat % 16 = 15 := by unfold nibble; bv_omega
  simp only [inc8, wraps, carries]

theorem dec8_eq (v : Byte) (f : Flags) :
    dec8 v f = { value := v - 1,
                 flags := { f with z := decide (v = 1), n := true, h := decide (v.toNat % 16 = 0) } } := by
  have zero : v - 1 = 0 ↔ v = 1 := by bv_omega
  have borrows : nibble (v - 1) = 0xF ↔ v.toNat % 16 = 0 := by unfold nibble; bv_omega
  simp only [dec8, zero, borrows]

/-- Settles O21: the operand is the source's, the difference the one over the integers. -/
theorem subSbcAndCp : Obligations.SubSbcAndCp := by
  unfold Obligations.SubSbcAndCp
  intro src s v n operand
  have reads : v = src.value s ∧ n = src.cycles := by cases src <;> exact operand
  have alu := exec_aluInstr_next reads
  refine ⟨?_, ?_, ?_⟩
  · intro t difference
    rw [alu .sub, AluOp.apply, subWith_eq_ofInt (c := false) (difference.trans (Int.sub_zero _).symm)]
    rfl
  · rintro c t rfl difference
    rw [carry_toNat] at difference ⊢
    rw [alu .sbc, AluOp.apply, subWith_eq_ofInt difference]
    rfl
  · rw [alu .cp, AluOp.apply, subWith_false_flags]
    rfl

/-- Settles O23: the flags of the new value, said of the old one. -/
theorem incAndDec : Obligations.IncAndDec := by
  unfold Obligations.IncAndDec
  rintro r s v w rfl rfl
  refine ⟨?_, ?_, ?_, ?_⟩
  · rw [exec_incInstr, incReg_next, inc8_eq]; rfl
  · rw [exec_decInstr, decReg_next, dec8_eq]; rfl
  · have inc : exec .inc_atHl s = modifyAtHl 12 (inc8 (s.memRead s.hl) s.flags) s := rfl
    rw [inc, modifyAtHl_next, inc8_eq]; rfl
  · have dec : exec .dec_atHl s = modifyAtHl 12 (dec8 (s.memRead s.hl) s.flags) s := rfl
    rw [dec, modifyAtHl_next, dec8_eq]; rfl

/-- Settles O20: the operand is the source's, and the model takes the sum and its flags as R251 and R252 do. -/
theorem addAndAdc : Obligations.AddAndAdc := by
  unfold Obligations.AddAndAdc
  intro src s v n operand
  have reads : v = src.value s ∧ n = src.cycles := by cases src <;> exact operand
  have alu := exec_aluInstr_next reads
  constructor
  · rintro t rfl
    exact alu .add
  · rintro c t rfl rfl
    rw [carry_toNat]
    exact alu .adc

/-- Settles O22: the operand is the source's, and each operation is the bitwise one. -/
theorem andXorAndOr : Obligations.AndXorAndOr := by
  unfold Obligations.AndXorAndOr
  intro src s v n operand
  have reads : v = src.value s ∧ n = src.cycles := by cases src <;> exact operand
  have alu := exec_aluInstr_next reads
  exact ⟨alu .and, alu .xor, alu .or⟩

end Sys2Proof.Machine

/-! # 16-bit arithmetic (43_alu16.md R280, R281, R283) -/

namespace Sys2Proof.Machine

/-! ### The meanings, by the pair they take -/

theorem exec_addHlInstr (p : Pair) (s : State) : exec (addHlInstr p) s = addPair p s := by cases p <;> rfl

theorem exec_incPairInstr (p : Pair) (s : State) : exec (incPairInstr p) s = incPair p s := by cases p <;> rfl

theorem exec_decPairInstr (p : Pair) (s : State) : exec (decPairInstr p) s = decPair p s := by cases p <;> rfl

/-- Settles O24: the operand is the pair's value; INC and DEC write the pair's halves, or SP, and no flag. -/
theorem wordArithmetic : Obligations.WordArithmetic := by
  unfold Obligations.WordArithmetic
  intro p s v operand
  have reads : v = s.getPair p := by cases p <;> exact operand
  subst reads
  constructor
  · rintro t r rfl rfl
    exact (exec_addHlInstr p s).trans (addPair_next p s)
  · intro i r instr
    have writes : exec i s = .next { s.setPair p r with tcycles := 8 } := by
      obtain ⟨rfl, rfl⟩ | ⟨rfl, rfl⟩ := instr
      · exact (exec_incPairInstr p s).trans (incPair_next p s)
      · exact (exec_decPairInstr p s).trans (decPair_next p s)
    rw [writes]
    cases p <;> rfl

end Sys2Proof.Machine

/-! # Jumps and returns (45_control.md R301 to R305, R308, R309; 46_misc.md R342) -/

namespace Sys2Proof.Machine

/-! ### The meanings, by the condition they take -/

theorem exec_jpInstr (cc : Cond) (nn : Word) (s : State) : exec (jpInstr cc nn) s = jumpIf cc nn s := by
  cases cc <;> rfl

theorem exec_jrInstr (cc : Cond) (e : Byte) (s : State) : exec (jrInstr cc e) s = jumpRelIf cc e s := by
  cases cc <;> rfl

theorem exec_retInstr (cc : Cond) (s : State) : exec (retInstr cc) s = returnIf cc s := by cases cc <;> rfl

/-! ### The returned-to state, by the two bytes the pop reads (R308, R342) -/

theorem State.return_eq (s : State) :
    s.return = { s with pc := s.memRead (s.sp + 1) ++ s.memRead s.sp, sp := s.sp + 2 } := by
  rw [State.return, State.popped_eq, State.popValue, wordOf]

theorem State.returnFromInterrupt_eq (s : State) : s.returnFromInterrupt = { s.return with ime := true } := rfl

/-- Settles O26: each form is the jump to its target, or nothing when the condition fails. -/
theorem jumps : Obligations.Jumps := by
  unfold Obligations.Jumps
  rintro cc nn e s taken rfl
  exact ⟨finish_next 16 { s with pc := nn }, finish_next 4 { s with pc := s.hl },
    finish_next 12 { s with pc := s.relative e },
    (exec_jpInstr cc nn s).trans (jumpIf_next cc nn s), (exec_jrInstr cc e s).trans (jumpRelIf_next cc e s)⟩

/-- Settles O28: each form is the return, or nothing when the condition fails; RETI's also sets IME. -/
theorem returns : Obligations.Returns := by
  unfold Obligations.Returns
  rintro cc s taken target rfl rfl
  refine ⟨?_, ?_, ?_⟩
  · have ret : exec .ret s = .next { s.return with tcycles := 16 } := rfl
    rw [ret, State.return_eq]
  · rw [exec_retInstr, returnIf_next, State.return_eq]
    rfl
  · have reti : exec .reti s = .next { s.returnFromInterrupt with tcycles := 16 } := rfl
    rw [reti, State.returnFromInterrupt_eq, State.return_eq]

end Sys2Proof.Machine

/-! # CPL, NOP, DI, EI and HALT (46_misc.md R331, R334, R336, R338, R339) -/

namespace Sys2Proof.Machine

/-! ### HALT, by whether it halts (R336) -/

/-- With IME set, or with nothing enabled pending, the machine waits. -/
theorem exec_halt_enters {s : State} (h : s.ime = true ∨ s.pending = 0) :
    exec .halt s = finish 4 { s with halted := true } := by
  change exec_halt s = _
  rw [exec_halt]
  obtain ime | pending := h
  · exact if_pos ime
  · rw [if_pos pending, ite_self]

/-- With IME clear and an enabled interrupt pending, the machine runs on with the HALT bug. -/
theorem exec_halt_setsBug {s : State} (h : ¬(s.ime = true ∨ s.pending = 0)) :
    exec .halt s = finish 4 { s with haltBugActive := true } := by
  obtain ⟨ime, pending⟩ := not_or.mp h
  change exec_halt s = _
  rw [exec_halt, if_neg ime, if_neg pending]

/-- Settles O32: HALT enters the halted state or sets the HALT bug, by IME and the pending interrupts. -/
theorem haltInstruction : Obligations.HaltInstruction := by
  unfold Obligations.HaltInstruction
  intro s
  split
  case isTrue waits => exact (exec_halt_enters waits).trans (finish_next 4 _)
  case isFalse runs => exact (exec_halt_setsBug runs).trans (finish_next 4 _)

/-- Settles O30: each of the four is its change of the state, finished after 4 T-cycles. -/
theorem complementNopAndInterruptEnable : Obligations.ComplementNopAndInterruptEnable := by
  unfold Obligations.ComplementNopAndInterruptEnable
  intro s
  refine ⟨?cpl, ?nop, ?di, ?ei⟩
  case cpl => exact finish_next 4 { s.setR .a (s.getR .a ^^^ 0xFF) with flags := { s.flags with n := true, h := true } }
  case nop => exact finish_next 4 s
  case di => exact finish_next 4 { s with ime := false, eiDelayPending := false }
  case ei => exact finish_next 4 { s with eiDelayPending := true }

end Sys2Proof.Machine

/-! # The CB rotates and shifts (47_cb_shift.md R360 to R368) -/

namespace Sys2Proof.Machine

/-! ### The rotated or shifted byte, as the seven bits that stay and the one that comes in -/

/-- Shifted left, the low seven bits stand over the bit that comes in. -/
theorem shiftLeft_or_bitAt_zero (v : Byte) (b : Bool) :
    v <<< 1 ||| bitAt b 0 = v.extractLsb' 0 7 ++ BitVec.ofBool b := by
  revert v b; decide

/-- Shifted right, the bit that comes in stands over the high seven bits. -/
theorem ushiftRight_or_bitAt_seven (v : Byte) (b : Bool) :
    v >>> 1 ||| bitAt b 7 = BitVec.ofBool b ++ v.extractLsb' 1 7 := by
  revert v b; decide

theorem RotOp.value_rlc (v : Byte) (c : Bool) : RotOp.rlc.value v c = v.rotateLeft 1 := by
  revert v c; decide

theorem RotOp.value_rrc (v : Byte) (c : Bool) : RotOp.rrc.value v c = v.rotateRight 1 := by
  revert v c; decide

theorem RotOp.value_rl (v : Byte) (c : Bool) : RotOp.rl.value v c = v.extractLsb' 0 7 ++ BitVec.ofBool c :=
  shiftLeft_or_bitAt_zero v c

theorem RotOp.value_rr (v : Byte) (c : Bool) : RotOp.rr.value v c = BitVec.ofBool c ++ v.extractLsb' 1 7 :=
  ushiftRight_or_bitAt_seven v c

/-- SLA takes in a 0. -/
theorem RotOp.value_sla (v : Byte) (c : Bool) : RotOp.sla.value v c = v.extractLsb' 0 7 ++ 0#1 :=
  BitVec.or_zero.symm.trans (shiftLeft_or_bitAt_zero v false)

/-- SRA takes in bit 7 again. -/
theorem RotOp.value_sra (v : Byte) (c : Bool) :
    RotOp.sra.value v c = v.extractLsb' 7 1 ++ v.extractLsb' 1 7 := by
  revert v c; decide

theorem RotOp.value_swap (v : Byte) (c : Bool) :
    RotOp.swap.value v c = v.extractLsb' 0 4 ++ v.extractLsb' 4 4 := by
  revert v c; decide

/-- SRL takes in a 0. -/
theorem RotOp.value_srl (v : Byte) (c : Bool) : RotOp.srl.value v c = 0#1 ++ v.extractLsb' 1 7 :=
  BitVec.or_zero.symm.trans (ushiftRight_or_bitAt_seven v false)

/-! ### The result, and the next state by the target -/

/-- The result is its byte and the four flags R361 to R368 give. -/
theorem RotOp.apply_eq {op : RotOp} {v w : Byte} {f g : Flags} (value : w = op.value v g.c)
    (z : f.z = decide (w = 0)) (n : f.n = false) (h : f.h = false) (c : f.c = op.carry v) :
    op.apply v g = { value := w, flags := f } := by
  cases f
  simp only at z n h c
  subst value z n h c
  rfl

/-- The target takes the byte of the result, and F its flags (R360). -/
theorem exec_rotInstr_next {op : RotOp} {t : Target} {s : State} {w : Byte} {f : Flags}
    (result : op.apply (t.get s) s.flags = { value := w, flags := f }) :
    exec (rotInstr op t) s = .next { t.set s w with flags := f, tcycles := t.cycles } := by
  rw [exec_rotInstr, rotateTarget_next, result]

/-- Settles O33: the byte and the carry by the operation, then the one result for either target. -/
theorem cbRotatesAndShifts : Obligations.CbRotatesAndShifts := by
  unfold Obligations.CbRotatesAndShifts
  intro op s v w f byOp z n h
  have byteAndCarry : w = op.value v s.flags.c ∧ f.c = op.carry v := by
    cases op with
    | rlc => rw [RotOp.value_rlc]; exact byOp
    | rrc => rw [RotOp.value_rrc]; exact byOp
    | rl => rw [RotOp.value_rl]; exact byOp
    | rr => rw [RotOp.value_rr]; exact byOp
    | sla => rw [RotOp.value_sla]; exact byOp
    | sra => rw [RotOp.value_sra]; exact byOp
    | swap => rw [RotOp.value_swap]; exact byOp
    | srl => rw [RotOp.value_srl]; exact byOp
  obtain ⟨value, carry⟩ := byteAndCarry
  have result := RotOp.apply_eq value z n h carry
  constructor
  · rintro r rfl
    exact exec_rotInstr_next (t := .reg r) result
  · rintro rfl
    exact exec_rotInstr_next (t := .atHl) result

end Sys2Proof.Machine

/-! # BIT, RES and SET (48_cb_bit.md R380 to R382) -/

namespace Sys2Proof.Machine

/-! ### The byte with one bit cleared or set -/

/-- The mask of bit b, by its bits. -/
theorem getLsbD_bitMask (b : Nat) {k : Nat} (hk : k < 8) : (1#8 <<< b).getLsbD k = decide (k = b) := by
  have mask : (1#8 <<< b).getLsbD k = (decide (b < 8) && decide (b = k)) := BitVec.getLsbD_twoPow b k
  rw [mask, ← Bool.decide_and, decide_eq_decide]
  omega

/-- The byte with bit b cleared is the one with a 0 there and the old bits elsewhere (R381). -/
theorem and_not_bitMask_eq {b : Nat} {v w : Byte}
    (bits : ∀ k : Nat, k < 8 → w.getLsbD k = (if k = b then false else v.getLsbD k)) :
    v &&& ~~~(1#8 <<< b) = w := by
  apply BitVec.eq_of_getLsbD_eq
  intro k hk
  rw [bits k hk, BitVec.getLsbD_and, BitVec.getLsbD_not, getLsbD_bitMask b hk]
  by_cases same : k = b <;> simp [same, hk]

/-- The byte with bit b set is the one with a 1 there and the old bits elsewhere (R382). -/
theorem or_bitMask_eq {b : Nat} {v w : Byte}
    (bits : ∀ k : Nat, k < 8 → w.getLsbD k = (if k = b then true else v.getLsbD k)) :
    v ||| 1#8 <<< b = w := by
  apply BitVec.eq_of_getLsbD_eq
  intro k hk
  rw [bits k hk, BitVec.getLsbD_or, getLsbD_bitMask b hk]
  by_cases same : k = b <;> simp [same]

/-! ### The next state, by the bit and the target -/

theorem exec_bitInstr_next (b : Fin 8) (t : Target) (s : State) :
    exec (bitInstr b t) s =
      .next { s with flags := bitFlags (t.get s) b s.flags, tcycles := t.bitCycles } := by
  rw [exec_bitInstr, bitTest_next]

/-- RES writes its target, and nothing but its target, even where bit b is 0 already. -/
theorem exec_resInstr_next {b : Fin 8} {t : Target} {s : State} {w : Byte}
    (cleared : t.get s &&& ~~~(1#8 <<< b.val) = w) :
    exec (resInstr b t) s = .next { t.set s w with tcycles := t.cycles } := by
  rw [exec_resInstr, bitReset_next, cleared]

/-- SET writes its target, and nothing but its target, even where bit b is 1 already. -/
theorem exec_setInstr_next {b : Fin 8} {t : Target} {s : State} {w : Byte}
    (raised : t.get s ||| 1#8 <<< b.val = w) :
    exec (setInstr b t) s = .next { t.set s w with tcycles := t.cycles } := by
  rw [exec_setInstr, bitSet_next, raised]

/-- Settles O35: the byte written is fixed by its bits, and either target takes it. -/
theorem bitResetsAndSets : Obligations.BitResetsAndSets := by
  unfold Obligations.BitResetsAndSets
  intro b s v w0 w1 bits0 bits1
  have cleared := and_not_bitMask_eq bits0
  have raised := or_bitMask_eq bits1
  constructor
  · rintro r rfl
    exact ⟨exec_resInstr_next (t := .reg r) cleared, exec_setInstr_next (t := .reg r) raised⟩
  · rintro rfl
    exact ⟨exec_resInstr_next (t := .atHl) cleared, exec_setInstr_next (t := .atHl) raised⟩

/-- Settles O34: the one next state of BIT, for a register and for the byte at HL. -/
theorem bitTests : Obligations.BitTests := by
  unfold Obligations.BitTests
  intro b r s
  exact ⟨exec_bitInstr_next b (.reg r) s, exec_bitInstr_next b .atHl s⟩

end Sys2Proof.Machine

/-! # The timer (61_timer.md R460 to R467) -/

namespace Sys2Proof.Machine

/-! ### The edge check, by whether the signal falls (R462, R465) -/

section
variable {p : Params} {t : Timer}

/-- No falling edge: only the signal is recorded. -/
theorem Timer.edgeCheck_still (h : t.prevSignal = false ∨ t.signal = true) (iflag : BitVec 5) :
    t.edgeCheck p iflag = ({ t with prevSignal := t.signal }, iflag) := by
  have noEdge : ¬ (t.prevSignal && !t.signal) = true := by
    obtain h | h := h <;> simp [h]
  simp only [Timer.edgeCheck, if_neg noEdge]

theorem Timer.edgeCheck_fall (prev : t.prevSignal = true) (low : t.signal = false) (iflag : BitVec 5) :
    t.edgeCheck p iflag = ({ (t.increment p iflag).1 with prevSignal := t.signal }, (t.increment p iflag).2) := by
  have edge : (t.prevSignal && !t.signal) = true := by simp [prev, low]
  simp only [Timer.edgeCheck, if_pos edge]

theorem Timer.increment_below (h : t.tima ≠ 0xFF) (iflag : BitVec 5) :
    t.increment p iflag = ({ t with tima := t.tima + 1 }, iflag) := if_neg h

theorem Timer.increment_overflow_delayed (h : t.tima = 0xFF) (variant : p.timerReload = .delayed) (iflag : BitVec 5) :
    t.increment p iflag = ({ t with tima := 0, reloadCountdown := 4 }, iflag) := by
  rw [Timer.increment, if_pos h, variant]; rfl

theorem Timer.increment_overflow_immediate (h : t.tima = 0xFF) (variant : p.timerReload = .immediate)
    (iflag : BitVec 5) : t.increment p iflag = ({ t with tima := t.tma }, iflag ||| 4#5) := by
  rw [Timer.increment, if_pos h, variant]; rfl

end

/-! ### The invariant -/

/-- An increment leaves a countdown within the bound. -/
theorem Timer.increment_countdown_le {p : Params} {t : Timer} (h : t.reloadCountdown ≤ reloadDelay p.timerReload)
    (iflag : BitVec 5) : (t.increment p iflag).1.reloadCountdown ≤ reloadDelay p.timerReload := by
  by_cases full : t.tima = 0xFF
  · cases variant : p.timerReload with
    | delayed => rw [Timer.increment_overflow_delayed full variant]; exact Nat.le_refl 4
    | immediate => rw [Timer.increment_overflow_immediate full variant]; exact variant ▸ h
  · rw [Timer.increment_below full]; exact h

/-- After an edge check the recorded signal is current. -/
theorem Timer.edgeCheck_inv {p : Params} {t : Timer} (h : t.reloadCountdown ≤ reloadDelay p.timerReload)
    (iflag : BitVec 5) : (t.edgeCheck p iflag).1.Inv p := by
  have current : (t.edgeCheck p iflag).1.prevSignal = t.signal := rfl
  obtain ⟨tima, prev, countdown, requested, check⟩ := t.edgeCheck_only p iflag
  refine ⟨?_, by rw [current, check]; rfl⟩
  by_cases fall : t.prevSignal = true ∧ t.signal = false
  · rw [Timer.edgeCheck_fall fall.1 fall.2]
    exact Timer.increment_countdown_le h iflag
  · rw [Timer.edgeCheck_still (by simpa [Classical.or_iff_not_imp_left] using fall)]
    exact h

theorem Timer.countDown_countdown (t : Timer) (iflag : BitVec 5) :
    (t.countDown iflag).1.reloadCountdown = t.reloadCountdown - 1 := by
  unfold Timer.countDown
  split
  case h_1 none => rw [none]
  case h_2 last => rw [last]; rfl
  case h_3 n running => rw [running]; rfl

theorem Timer.tick_inv {p : Params} {t : Timer} (h : t.Inv p) (iflag : BitVec 5) : (t.tick p iflag).1.Inv p := by
  apply Timer.edgeCheck_inv
  rw [Timer.countDown_countdown]
  exact Nat.le_trans (Nat.sub_le ..) h.1

theorem Timer.advance_inv {p : Params} (n : Nat) {r : Timer × BitVec 5} (h : r.1.Inv p) :
    (Timer.advance p n r).1.Inv p := by
  induction n generalizing r with
  | zero => exact h
  | succ n ih => exact ih (Timer.tick_inv h r.2)

/-! ### The two registers that only store, and the two with an edge check (R463, R464, R466) -/

/-- What a write leaves whose edge check runs on `base`. -/
theorem Timer.edgeCheck_cases {p : Params} {base : Timer} {sig : Bool} (current : base.signal = sig)
    (iflag : BitVec 5) :
    (base.prevSignal = true → sig = false →
      (base.tima ≠ 0xFF → base.edgeCheck p iflag = ({ base with tima := base.tima + 1, prevSignal := sig }, iflag)) ∧
      (base.tima = 0xFF → p.timerReload = .delayed → base.edgeCheck p iflag =
        ({ base with tima := 0, reloadCountdown := 4, prevSignal := sig }, iflag)) ∧
      (base.tima = 0xFF → p.timerReload = .immediate → base.edgeCheck p iflag =
        ({ base with tima := base.tma, prevSignal := sig }, iflag ||| 4#5))) ∧
    (base.prevSignal = false ∨ sig = true → base.edgeCheck p iflag = ({ base with prevSignal := sig }, iflag)) := by
  subst current
  refine ⟨fun prev low => ⟨fun below => ?_, fun full variant => ?_, fun full variant => ?_⟩,
    fun still => Timer.edgeCheck_still still iflag⟩
  · rw [Timer.edgeCheck_fall prev low, Timer.increment_below below]
  · rw [Timer.edgeCheck_fall prev low, Timer.increment_overflow_delayed full variant]
  · rw [Timer.edgeCheck_fall prev low, Timer.increment_overflow_immediate full variant]

theorem mod_four_cases (n : Nat) : n % 4 = 0 ∨ n % 4 = 1 ∨ n % 4 = 2 ∨ n % 4 = 3 := by omega

/-- Of the three bits TAC stores, the low two select as the byte's do. -/
theorem Timer.signal_setTac (t : Timer) (v : Byte) :
    Timer.signal { t with tac := v.extractLsb' 0 3 } = (v.getLsbD 2 && t.counter.getLsbD
      (Timer.selectedBit { t with tac := v.extractLsb' 0 3 })) := by
  simp [Timer.signal]

/-- Settles O44: the two plain stores, and the edge check on the timer with the register written. -/
theorem timerRegisterWrites : Obligations.TimerRegisterWrites := by
  unfold Obligations.TimerRegisterWrites
  intro s v
  refine ⟨s.memWrite_register 0x05 v, s.memWrite_register 0x06 v, fun a base sig write => ?_⟩
  have kept : base.tima = s.timer.tima ∧ base.tma = s.timer.tma ∧ base.prevSignal = s.timer.prevSignal := by
    obtain ⟨-, rfl, -⟩ | ⟨-, rfl, -⟩ := write <;> exact ⟨rfl, rfl, rfl⟩
  have checked : s.memWrite a v = s.setTimer (base.edgeCheck s.params s.iflag) ∧ base.signal = sig := by
    obtain ⟨rfl, rfl, rfl⟩ | ⟨rfl, rfl, rfl⟩ := write
    · have select : (v.extractLsb' 0 3).toNat % 4 = v.toNat % 4 := by
        rw [BitVec.extractLsb'_toNat, Nat.shiftRight_zero]; omega
      refine ⟨s.memWrite_register 0x07 v, (Timer.signal_setTac s.timer v).trans ?_⟩
      obtain h | h | h | h := mod_four_cases v.toNat <;> simp only [Timer.selectedBit, select, h]
    · exact ⟨s.memWrite_register 0x04 v, by simp [Timer.signal]⟩
  obtain ⟨tima, tma, prev⟩ := kept
  obtain ⟨result, current⟩ := checked
  obtain ⟨falls, still⟩ := Timer.edgeCheck_cases (p := s.params) current s.iflag
  rw [← tima, ← tma, ← prev, result]
  refine ⟨fun high low => ?_, fun h => by rw [still h]; rfl⟩
  obtain ⟨below, delayed, immediate⟩ := falls high low
  exact ⟨fun h => by rw [below h]; rfl, fun h variant => by rw [delayed h variant]; rfl,
    fun h variant => by rw [immediate h variant]; rfl⟩

/-! ### The period of TIMA and where the counter stands in it (R460) -/

/-- The T-cycles from one increment of TIMA to the next. -/
def Timer.period (t : Timer) : Nat := 2 ^ (t.selectedBit + 1)

/-- The T-cycles since the last increment. -/
def Timer.phase (t : Timer) : Nat := t.counter.toNat % t.period

theorem Timer.selectedBit_cases (t : Timer) :
    t.selectedBit = 9 ∨ t.selectedBit = 3 ∨ t.selectedBit = 5 ∨ t.selectedBit = 7 := by
  unfold Timer.selectedBit
  split <;> simp

theorem Timer.phase_lt (t : Timer) : t.phase < t.period := Nat.mod_lt _ (Nat.two_pow_pos _)

/-- The signal is 1 in the second half of the period. -/
theorem Timer.signal_eq {t : Timer} (on : t.tac.getLsbD 2 = true) : t.signal = decide (t.period ≤ 2 * t.phase) := by
  rw [Timer.signal, on, Bool.true_and, BitVec.getLsbD, Nat.testBit_eq_decide_div_mod_eq, decide_eq_decide, Timer.phase,
    Timer.period]
  obtain h | h | h | h := t.selectedBit_cases <;> rw [h] <;> omega

/-- The counter one T-cycle on. -/
def Timer.counted (t : Timer) : Timer := { t with counter := t.counter + 1 }

@[simp] theorem Timer.counted_period (t : Timer) : t.counted.period = t.period := rfl

theorem Timer.counted_phase (t : Timer) : t.counted.phase = (t.phase + 1) % t.period := by
  have next : t.counted.counter.toNat = (t.counter.toNat + 1) % 65536 := BitVec.toNat_add t.counter 1
  rw [Timer.phase, Timer.phase, t.counted_period, next, Timer.period]
  obtain h | h | h | h := t.selectedBit_cases <;> rw [h] <;> omega

/-- Within a period the signal only rises. -/
theorem Timer.noFall_of_phase {t : Timer} (on : t.tac.getLsbD 2 = true) (current : t.prevSignal = t.signal)
    (h : t.phase + 1 < t.period) : t.prevSignal = false ∨ t.counted.signal = true := by
  rw [current, Timer.signal_eq on, Timer.signal_eq (t := t.counted) on, t.counted_phase, t.counted_period,
    Nat.mod_eq_of_lt h, decide_eq_false_iff_not, decide_eq_true_iff]
  omega

/-- At its end it falls. -/
theorem Timer.fall_of_phase {t : Timer} (on : t.tac.getLsbD 2 = true) (current : t.prevSignal = t.signal)
    (h : t.phase + 1 = t.period) : t.prevSignal = true ∧ t.counted.signal = false := by
  have even : t.period = 2 ^ t.selectedBit * 2 := rfl
  rw [current, Timer.signal_eq on, Timer.signal_eq (t := t.counted) on, t.counted_phase, t.counted_period, h,
    Nat.mod_self, decide_eq_false_iff_not, decide_eq_true_iff]
  omega

/-! ### One T-cycle (R462) -/

/-- What a countdown leaves alone. -/
theorem Timer.countDown_only (t : Timer) (iflag : BitVec 5) :
    ∃ (tima : Byte) (countdown : Nat) (requested : BitVec 5),
      t.countDown iflag = ({ t with tima := tima, reloadCountdown := countdown }, requested) := by
  unfold Timer.countDown
  split
  all_goals exact ⟨_, _, _, rfl⟩

/-- A countdown that does not run out. -/
theorem Timer.countDown_running {t : Timer} (h : t.reloadCountdown = 0 ∨ 1 < t.reloadCountdown) (iflag : BitVec 5) :
    t.countDown iflag = ({ t with reloadCountdown := t.reloadCountdown - 1 }, iflag) := by
  unfold Timer.countDown
  split
  case h_1 zero =>
    have same : t.reloadCountdown - 1 = t.reloadCountdown := by omega
    rw [same]
  case h_2 one => omega
  case h_3 n running => rw [running]; rfl

/-- The last T-cycle of a countdown reloads TIMA (R466). -/
theorem Timer.countDown_last {t : Timer} (h : t.reloadCountdown = 1) (iflag : BitVec 5) :
    t.countDown iflag = ({ t with tima := t.tma, reloadCountdown := 0 }, iflag ||| 4#5) := by
  rw [Timer.countDown, h]
  rfl

/-- A T-cycle moves the counter by one, and of the registers it writes TIMA alone. -/
theorem Timer.tick_only (p : Params) (t : Timer) (iflag : BitVec 5) :
    ∃ (tima : Byte) (prev : Bool) (countdown : Nat) (requested : BitVec 5), t.tick p iflag =
      ({ t.counted with tima := tima, prevSignal := prev, reloadCountdown := countdown }, requested) := by
  obtain ⟨_, _, _, counted⟩ := t.counted.countDown_only iflag
  have tick : t.tick p iflag = Timer.edgeCheck p (t.counted.countDown iflag).1 (t.counted.countDown iflag).2 := rfl
  rw [tick, counted]
  exact Timer.edgeCheck_only ..

section
variable {p : Params} {t : Timer}

/-- A T-cycle that brings no falling edge: the counter and the countdown. -/
theorem Timer.tick_still (still : t.prevSignal = false ∨ t.counted.signal = true) (iflag : BitVec 5) :
    t.tick p iflag =
      ({ (t.counted.countDown iflag).1 with prevSignal := t.counted.signal }, (t.counted.countDown iflag).2) := by
  obtain ⟨tima, countdown, requested, counted⟩ := t.counted.countDown_only iflag
  have tick : t.tick p iflag = Timer.edgeCheck p (t.counted.countDown iflag).1 (t.counted.countDown iflag).2 := rfl
  rw [tick, counted]
  exact Timer.edgeCheck_still still requested

/-- With no reload pending a T-cycle is the counter and the edge check. -/
theorem Timer.tick_idle (idle : t.reloadCountdown = 0) (iflag : BitVec 5) :
    t.tick p iflag = t.counted.edgeCheck p iflag := by
  have none : t.counted.countDown iflag = (t.counted, iflag) := by
    rw [Timer.countDown, show t.counted.reloadCountdown = 0 from idle]
  have tick : t.tick p iflag = Timer.edgeCheck p (t.counted.countDown iflag).1 (t.counted.countDown iflag).2 := rfl
  rw [tick, none]

end

/-! ### n T-cycles -/

theorem Timer.advance_add (p : Params) (m n : Nat) (r : Timer × BitVec 5) :
    Timer.advance p (m + n) r = Timer.advance p n (Timer.advance p m r) := by
  induction m generalizing r with
  | zero => rw [Nat.zero_add]; rfl
  | succ m ih => rw [Nat.succ_add]; exact ih _

theorem add_ofNat_succ (c : Word) (n : Nat) : c + 1 + BitVec.ofNat 16 n = c + BitVec.ofNat 16 (n + 1) := by
  bv_omega

theorem Timer.advance_registers (p : Params) (n : Nat) (t : Timer) (iflag : BitVec 5) :
    (Timer.advance p n (t, iflag)).1.counter = t.counter + BitVec.ofNat 16 n ∧
    (Timer.advance p n (t, iflag)).1.tac = t.tac ∧ (Timer.advance p n (t, iflag)).1.tma = t.tma := by
  induction n generalizing t iflag with
  | zero => exact ⟨(BitVec.add_zero _).symm, rfl, rfl⟩
  | succ n ih =>
    obtain ⟨tima, prev, countdown, requested, tick⟩ := t.tick_only p iflag
    obtain ⟨counter, tac, tma⟩ := ih
      { t.counted with tima := tima, prevSignal := prev, reloadCountdown := countdown } requested
    rw [Timer.advance, tick]
    exact ⟨counter.trans (add_ofNat_succ ..), tac, tma⟩

/-- The timer with the counter `n` T-cycles on and its edge signal current. -/
def Timer.later (t : Timer) (n : Nat) : Timer :=
  { t with counter := t.counter + BitVec.ofNat 16 n,
           prevSignal := Timer.signal { t with counter := t.counter + BitVec.ofNat 16 n } }

theorem Timer.later_zero {t : Timer} (current : t.prevSignal = t.signal) : t.later 0 = t :=
  calc t.later 0
    _ = { t with prevSignal := t.signal } := by rw [Timer.later, BitVec.add_zero]
    _ = t := by rw [← current]

theorem Timer.later_later (t : Timer) (n : Nat) : (t.later 1).later n = t.later (n + 1) := by
  simp only [Timer.later]
  rw [show t.counter + BitVec.ofNat 16 1 + BitVec.ofNat 16 n = _ from add_ofNat_succ ..]
  rfl

theorem Timer.later_phase {t : Timer} {n : Nat} (h : t.phase + n < t.period) : (t.later n).phase = t.phase + n := by
  induction n generalizing t with
  | zero => rw [Timer.later, BitVec.add_zero]; rfl
  | succ n ih =>
    have one : (t.later 1).phase = t.phase + 1 := t.counted_phase.trans (Nat.mod_eq_of_lt (by omega))
    have same : (t.later 1).period = t.period := rfl
    rw [← Timer.later_later, ih (by rw [one, same]; omega), one]
    omega

section
variable {p : Params}

/-- A T-cycle within a period whose countdown does not run out. -/
theorem Timer.tick_within {t : Timer} (on : t.tac.getLsbD 2 = true) (current : t.prevSignal = t.signal)
    (within : t.phase + 1 < t.period) (pending : t.reloadCountdown = 0 ∨ 1 < t.reloadCountdown) (iflag : BitVec 5) :
    t.tick p iflag = ({ t.later 1 with reloadCountdown := t.reloadCountdown - 1 }, iflag) := by
  rw [Timer.tick_still (Timer.noFall_of_phase on current within), Timer.countDown_running (t := t.counted) pending]
  rfl

/-- T-cycles within a period that run no countdown out move the counter, and a pending reload closer. -/
theorem Timer.advance_within {n : Nat} {t : Timer} (on : t.tac.getLsbD 2 = true) (current : t.prevSignal = t.signal)
    (within : t.phase + n < t.period) (pending : t.reloadCountdown = 0 ∨ n < t.reloadCountdown) (iflag : BitVec 5) :
    Timer.advance p n (t, iflag) = ({ t.later n with reloadCountdown := t.reloadCountdown - n }, iflag) := by
  induction n generalizing t with
  | zero => rw [Timer.later_zero current]; rfl
  | succ n ih =>
    have phase : (t.later 1).phase = t.phase + 1 := Timer.later_phase (by omega)
    rw [Timer.advance, Timer.tick_within on current (by omega) (by omega),
      ih (t := { t.later 1 with reloadCountdown := t.reloadCountdown - 1 }) on rfl
        (show (t.later 1).phase + n < t.period by omega) (by dsimp only; omega),
      ← t.later_later n, Nat.sub_sub, Nat.add_comm 1 n]
    rfl

/-- The T-cycles within a period that run a countdown out: TIMA takes TMA, with the request (R466). -/
theorem Timer.advance_reload {n : Nat} {t : Timer} (on : t.tac.getLsbD 2 = true) (current : t.prevSignal = t.signal)
    (within : t.phase + (n + 1) < t.period) (pending : t.reloadCountdown = n + 1) (iflag : BitVec 5) :
    Timer.advance p (n + 1) (t, iflag) =
      ({ t.later (n + 1) with tima := t.tma, reloadCountdown := 0 }, iflag ||| 4#5) := by
  induction n generalizing t with
  | zero =>
    rw [Timer.advance, Timer.tick_still (Timer.noFall_of_phase on current within),
      Timer.countDown_last (t := t.counted) pending]
    rfl
  | succ n ih =>
    have phase : (t.later 1).phase = t.phase + 1 := Timer.later_phase (by omega)
    rw [Timer.advance, Timer.tick_within on current (by omega) (by omega),
      ih (t := { t.later 1 with reloadCountdown := t.reloadCountdown - 1 }) on rfl
        (show (t.later 1).phase + (n + 1) < t.period by omega) (by dsimp only; omega),
      ← t.later_later (n + 1)]
    rfl

/-- An increment neither reads nor writes the recorded signal. -/
theorem Timer.increment_setPrevSignal (t : Timer) (high : Bool) (iflag : BitVec 5) :
    Timer.increment p { t with prevSignal := high } iflag =
      ({ (t.increment p iflag).1 with prevSignal := high }, (t.increment p iflag).2) := by
  unfold Timer.increment
  dsimp only
  split
  · cases p.timerReload <;> rfl
  · rfl

/-- The end of a period, no reload pending: TIMA is incremented (R462). -/
theorem Timer.tick_period {t : Timer} (on : t.tac.getLsbD 2 = true) (current : t.prevSignal = t.signal)
    (last : t.phase + 1 = t.period) (idle : t.reloadCountdown = 0) (iflag : BitVec 5) :
    t.tick p iflag = (t.later 1).increment p iflag := by
  obtain ⟨high, low⟩ := Timer.fall_of_phase on current last
  rw [Timer.tick_idle idle, Timer.edgeCheck_fall (t := t.counted) high low]
  exact (Timer.increment_setPrevSignal t.counted t.counted.signal iflag).symm

/-- The T-cycles up to the end of a period. -/
theorem Timer.advance_period {n : Nat} {t : Timer} (on : t.tac.getLsbD 2 = true) (current : t.prevSignal = t.signal)
    (last : t.phase + (n + 1) = t.period) (idle : t.reloadCountdown = 0) (iflag : BitVec 5) :
    Timer.advance p (n + 1) (t, iflag) = (t.later (n + 1)).increment p iflag := by
  induction n generalizing t with
  | zero => exact Timer.tick_period on current last idle iflag
  | succ n ih =>
    have phase : (t.later 1).phase = t.phase + 1 := Timer.later_phase (by omega)
    rw [Timer.advance, Timer.tick_within on current (by omega) (.inl idle), ← t.later_later (n + 1), idle]
    exact (ih (t := { t.later 1 with reloadCountdown := 0 }) on rfl
      (show (t.later 1).phase + (n + 1) = t.period by omega) rfl).trans (by rw [← idle]; rfl)

/-- Where TIMA does not overflow it rises by the ends of periods passed. -/
theorem Timer.advance_counts {n : Nat} {t : Timer} (on : t.tac.getLsbD 2 = true) (current : t.prevSignal = t.signal)
    (idle : t.reloadCountdown = 0) (fits : t.tima.toNat + (t.phase + n) / t.period ≤ 255) (iflag : BitVec 5) :
    (Timer.advance p n (t, iflag)).1.tima.toNat = t.tima.toNat + (t.phase + n) / t.period ∧
    (Timer.advance p n (t, iflag)).1.reloadCountdown = 0 ∧ (Timer.advance p n (t, iflag)).2 = iflag := by
  induction n generalizing t with
  | zero => exact ⟨by rw [Nat.add_zero, Nat.div_eq_of_lt t.phase_lt]; rfl, idle, rfl⟩
  | succ n ih =>
    rw [Timer.advance]
    obtain within | last := Nat.lt_or_eq_of_le (show t.phase + 1 ≤ t.period from t.phase_lt)
    · have phase : (t.later 1).phase = t.phase + 1 := Timer.later_phase within
      have passed : (t.later 1).phase + n = t.phase + (n + 1) := by omega
      rw [Timer.tick_within on current within (.inl idle), idle, ← passed]
      exact ih (t := { t.later 1 with reloadCountdown := 0 }) on rfl rfl (by rw [← passed] at fits; exact fits)
    · have phase : (t.later 1).phase = 0 := by
        rw [show (t.later 1).phase = _ from t.counted_phase, last, Nat.mod_self]
      have passed : (t.phase + (n + 1)) / t.period = ((t.later 1).phase + n) / t.period + 1 := by
        rw [phase, Nat.zero_add, ← Nat.add_div_right n (by omega), ← last]
        congr 1
        omega
      rw [passed] at fits ⊢
      have below : t.tima ≠ 0xFF := by
        intro full
        rw [full] at fits
        generalize ((t.later 1).phase + n) / t.period = more at fits
        simp only [BitVec.reduceToNat] at fits
        omega
      have tima : (t.tima + 1).toNat = t.tima.toNat + 1 := by bv_omega
      rw [Timer.tick_period on current last idle, Timer.increment_below (t := t.later 1) below]
      obtain ⟨count, countdown, requested⟩ := ih (t := { t.later 1 with tima := t.tima + 1 }) on rfl idle
        (show (t.tima + 1).toNat + ((t.later 1).phase + n) / t.period ≤ 255 by omega)
      refine ⟨count.trans ?_, countdown, requested⟩
      change (t.tima + 1).toNat + ((t.later 1).phase + n) / t.period = _
      omega

/-- A disabled timer counts its divider alone. -/
theorem Timer.advance_off {n : Nat} {t : Timer} (off : t.tac.getLsbD 2 = false) (low : t.prevSignal = false)
    (idle : t.reloadCountdown = 0) (iflag : BitVec 5) :
    (Timer.advance p n (t, iflag)).1.tima = t.tima ∧ (Timer.advance p n (t, iflag)).2 = iflag := by
  induction n generalizing t with
  | zero => exact ⟨rfl, rfl⟩
  | succ n ih =>
    have signal : t.counted.signal = false := by rw [Timer.signal, show t.counted.tac.getLsbD 2 = false from off]; rfl
    rw [Timer.advance, Timer.tick_idle idle, Timer.edgeCheck_still (t := t.counted) (.inl low), signal]
    exact ih (t := { t.counted with prevSignal := false }) off rfl idle

end

/-- Settles O45: the ends of periods passed, by induction on the T-cycles. -/
theorem timerCounts : Obligations.TimerCounts := by
  unfold Obligations.TimerCounts
  intro p t iflag n
  obtain ⟨counter, tac, tma⟩ := Timer.advance_registers p n t iflag
  refine ⟨counter, tac, tma, fun period named on current idle fits => ?_,
    fun off low idle => Timer.advance_off off low idle iflag⟩
  have same : period = t.period := by
    rw [named, Timer.period]
    obtain h | h | h | h := mod_four_cases t.tac.toNat <;>
      simp only [Timer.selectedBit, h, Nat.reduceAdd, Nat.reducePow]
  subst same
  exact Timer.advance_counts on current idle fits iflag

/-! ### The overflow and its reload (R465 to R467) -/

/-- The timer of R467: enabled at 16 T-cycles a step, at the start of a step, about to overflow. -/
structure Timer.AboutToOverflow (t : Timer) : Prop where
  aligned : t.counter.toNat % 16 = 0
  tac     : t.tac = 5
  low     : t.prevSignal = false
  full    : t.tima = 0xFF
  idle    : t.reloadCountdown = 0

theorem Timer.AboutToOverflow.basics {t : Timer} (h : t.AboutToOverflow) :
    t.tac.getLsbD 2 = true ∧ t.period = 16 ∧ t.phase = 0 ∧ t.prevSignal = t.signal := by
  obtain ⟨aligned, tac, low, -, -⟩ := h
  have on : t.tac.getLsbD 2 = true := by rw [tac]; rfl
  have period : t.period = 16 := by rw [Timer.period, Timer.selectedBit, tac]; rfl
  have phase : t.phase = 0 := by rw [Timer.phase, period]; exact aligned
  refine ⟨on, period, phase, ?_⟩
  rw [low, Timer.signal_eq on, period, phase]
  rfl

/-- In the simplified variant TIMA is reloaded with the overflow. -/
theorem Timer.AboutToOverflow.advance_immediate {p : Params} {t : Timer} (h : t.AboutToOverflow)
    (variant : p.timerReload = .immediate) (iflag : BitVec 5) :
    Timer.advance p 16 (t, iflag) = ({ t.later 16 with tima := t.tma }, iflag ||| 4#5) := by
  obtain ⟨on, period, phase, current⟩ := h.basics
  rw [Timer.advance_period (n := 15) on current (by omega) h.idle,
    Timer.increment_overflow_immediate (t := t.later 16) h.full variant]
  rfl

/-- The timer as it overflows, the reload delayed: a new step begins. -/
def Timer.overflowed (t : Timer) : Timer := { t.later 16 with tima := 0, reloadCountdown := 4 }

theorem Timer.AboutToOverflow.advance_delayed {p : Params} {t : Timer} (h : t.AboutToOverflow)
    (variant : p.timerReload = .delayed) (iflag : BitVec 5) :
    Timer.advance p 16 (t, iflag) = (t.overflowed, iflag) := by
  obtain ⟨on, period, phase, current⟩ := h.basics
  rw [Timer.advance_period (n := 15) on current (by omega) h.idle,
    Timer.increment_overflow_delayed (t := t.later 16) h.full variant]
  rfl

theorem Timer.AboutToOverflow.overflowed_phase {t : Timer} (h : t.AboutToOverflow) : t.overflowed.phase = 0 := by
  have next : (t.counter + 16#16).toNat % 16 = 0 := by have aligned := h.aligned; bv_omega
  obtain ⟨-, period, -, -⟩ := h.basics
  rw [Timer.phase, show t.overflowed.period = 16 from period]
  exact next

/-- Settles O46: the overflow at the end of the step, then the countdown within the next one. -/
theorem timerReload : Obligations.TimerReload := by
  unfold Obligations.TimerReload
  intro p t iflag v aligned tac low full idle
  have h : t.AboutToOverflow := ⟨aligned, tac, low, full, idle⟩
  obtain ⟨on, period, -, -⟩ := h.basics
  have phase := h.overflowed_phase
  have same : t.overflowed.period = 16 := period
  refine ⟨fun variant => ⟨fun n low high => ?_, ?_⟩, fun variant => ?_⟩
  · obtain ⟨j, rfl⟩ := Nat.exists_eq_add_of_le low
    obtain ⟨k, rest⟩ : ∃ k, 20 - (16 + j) = k + 1 := ⟨3 - j, by omega⟩
    have later : (t.overflowed.later j).phase = j := (Timer.later_phase (by omega)).trans (by omega)
    have at_n : Timer.advance p (16 + j) (t, iflag) =
        ({ t.overflowed.later j with reloadCountdown := k + 1 }, iflag) := by
      rw [Timer.advance_add, h.advance_delayed variant,
        Timer.advance_within (t := t.overflowed) on rfl (by omega) (.inr (show j < 4 by omega))]
      rw [show t.overflowed.reloadCountdown - j = k + 1 by change 4 - j = k + 1; omega]
    have cancelled := Timer.advance_within (p := p) (n := k + 1)
      (t := Timer.writeTima { t.overflowed.later j with reloadCountdown := k + 1 } v) on rfl
      (show (t.overflowed.later j).phase + (k + 1) < t.period by omega) (.inl rfl) iflag
    have reloaded := Timer.advance_reload (p := p) (n := k)
      (t := Timer.writeTma { t.overflowed.later j with reloadCountdown := k + 1 } v) on rfl
      (show (t.overflowed.later j).phase + (k + 1) < t.period by omega) rfl iflag
    refine ⟨_, at_n, rfl, ?_⟩
    rw [rest, cancelled, reloaded]
    exact ⟨rfl, rfl, rfl, rfl⟩
  · rw [Timer.advance_add p 16 4, h.advance_delayed variant,
      Timer.advance_reload (n := 3) (t := t.overflowed) on rfl (by omega) rfl]
    exact ⟨rfl, rfl⟩
  · rw [h.advance_immediate variant]
    exact ⟨rfl, rfl⟩

end Sys2Proof.Machine

/-! # The PPU's modes (62_ppu.md R484 to R488) -/

namespace Sys2Proof.Machine

/-! ### The mode change (R485, R486) -/

/-- An entry to a mode writes the mode, the presented frame or what a render writes, and nothing else. -/
theorem Ppu.enterMode_only (mem : Memory) (m : PpuMode) (p : Ppu) (iflag : BitVec 5) :
    ∃ (drawn : Bool) (scx scy : Byte) (base : Nat) (ids : List Shade) (frame presented : List (List Shade)),
      (p.enterMode mem m iflag).1 =
        { p with mode := m, windowDrawn := drawn, scxShadow := scx, scyShadow := scy, frozenPairBase := base,
                 bgId := ids, framebuffer := frame, presentedFrame := presented } := by
  cases m <;> exact ⟨_, _, _, _, _, _, _, rfl⟩

section
variable {mem : Memory} {p : Ppu} {iflag : BitVec 5}

theorem Ppu.changeMode_same (h : modeFor p.ly.toNat p.cycleCount = p.mode) : p.changeMode mem iflag = (p, iflag) :=
  if_pos h

theorem Ppu.changeMode_new (h : modeFor p.ly.toNat p.cycleCount ≠ p.mode) :
    p.changeMode mem iflag = p.enterMode mem (modeFor p.ly.toNat p.cycleCount) iflag := if_neg h

/-- After the mode change the mode is the table's (R485). -/
theorem Ppu.changeMode_only (mem : Memory) (p : Ppu) (iflag : BitVec 5) :
    ∃ (drawn : Bool) (scx scy : Byte) (base : Nat) (ids : List Shade) (frame presented : List (List Shade)),
      (p.changeMode mem iflag).1 =
        { p with mode := modeFor p.ly.toNat p.cycleCount, windowDrawn := drawn, scxShadow := scx, scyShadow := scy,
                 frozenPairBase := base, bgId := ids, framebuffer := frame, presentedFrame := presented } := by
  by_cases same : modeFor p.ly.toNat p.cycleCount = p.mode
  · rw [Ppu.changeMode_same same, same]
    exact ⟨_, _, _, _, _, _, _, rfl⟩
  · rw [Ppu.changeMode_new same]
    exact p.enterMode_only ..

/-- Only an entry to mode 3 writes `window_drawn`. -/
theorem Ppu.changeMode_windowDrawn (h : modeFor p.ly.toNat p.cycleCount ≠ .transfer ∨ p.mode = .transfer) :
    (p.changeMode mem iflag).1.windowDrawn = p.windowDrawn := by
  by_cases same : modeFor p.ly.toNat p.cycleCount = p.mode
  · rw [Ppu.changeMode_same same]
  · rw [Ppu.changeMode_new same]
    cases mode : modeFor p.ly.toNat p.cycleCount with
    | transfer => rw [mode] at h same; exact absurd (h.resolve_left (not_not_intro rfl)).symm same
    | oamSearch | hblank | vblank => rfl

end

/-! ### The table of modes (R485) -/

theorem modeFor_vblank {ly : Nat} (h : 144 ≤ ly) (cycle : Nat) : modeFor ly cycle = .vblank := if_neg (by omega)

section
variable {ly cycle : Nat} (visible : ly < 144)
include visible

theorem modeFor_below_80 (h : cycle < 80) : modeFor ly cycle = .oamSearch := by
  rw [modeFor, if_pos visible, if_pos h]

theorem modeFor_below_252 (low : 80 ≤ cycle) (h : cycle < 252) : modeFor ly cycle = .transfer := by
  rw [modeFor, if_pos visible, if_neg (by omega), if_pos h]

theorem modeFor_from_252 (h : 252 ≤ cycle) : modeFor ly cycle = .hblank := by
  rw [modeFor, if_pos visible, if_neg (by omega), if_neg (by omega)]

end

/-- The mode stays but at cycles 80 and 252 of the visible lines, and where a line starts. -/
theorem modeFor_succ {ly cycle : Nat} (h : 144 ≤ ly ∨ (cycle + 1 ≠ 80 ∧ cycle + 1 ≠ 252)) :
    modeFor ly (cycle + 1) = modeFor ly cycle := by
  by_cases visible : ly < 144
  · have search : cycle + 1 < 80 ↔ cycle < 80 := by omega
    have transfer : cycle + 1 < 252 ↔ cycle < 252 := by omega
    simp only [modeFor, search, transfer]
  · rw [modeFor_vblank (by omega), modeFor_vblank (by omega)]

/-! ### One T-cycle of a running LCD (R484) -/

/-- The line after line `ly`. -/
def nextLine (ly : Byte) : Byte := BitVec.ofNat 8 ((ly.toNat + 1) % 154)

theorem nextLine_toNat (ly : Byte) : (nextLine ly).toNat = (ly.toNat + 1) % 154 := by
  rw [nextLine, BitVec.toNat_ofNat]
  omega

section
variable {mem : Memory} {p : Ppu} {iflag : BitVec 5}

/-- The PPU where the next line starts, before the mode change. -/
def Ppu.lineStart (p : Ppu) : Ppu :=
  { p with
    cycleCount := 0, windowDrawn := false, ly := nextLine p.ly, coincidence := decide (nextLine p.ly = p.lyc)
    windowLine := if nextLine p.ly = 0 then 0 else if p.windowDrawn then p.windowLine + 1 else p.windowLine }

@[simp] theorem Ppu.lineStart_statEnables (p : Ppu) : p.lineStart.statEnables = p.statEnables := rfl
@[simp] theorem Ppu.lineStart_framebuffer (p : Ppu) : p.lineStart.framebuffer = p.framebuffer := rfl
@[simp] theorem Ppu.lineStart_presentedFrame (p : Ppu) : p.lineStart.presentedFrame = p.presentedFrame := rfl

theorem Ppu.endLine_eq : p.endLine iflag =
    (p.lineStart, requestIf (p.lycEnable && !p.coincidence && decide (nextLine p.ly = p.lyc)) .stat iflag) := rfl

variable (on : p.lcdOn = true) (running : p.enableDelay = 0)
include on running

theorem Ppu.tick_within (h : p.cycleCount + 1 ≠ 456) :
    p.tick mem iflag = Ppu.changeMode mem { p with cycleCount := p.cycleCount + 1 } iflag := by
  simp only [Ppu.tick, on, if_true, running, Ppu.scanTick, if_neg h]

theorem Ppu.tick_lineEnd (h : p.cycleCount + 1 = 456) :
    p.tick mem iflag = p.lineStart.changeMode mem (p.endLine iflag).2 := by
  simp only [Ppu.tick, on, if_true, running, Ppu.scanTick, if_pos h, Ppu.endLine_eq]

end

theorem nextLine_eq_zero_iff {ly : Byte} (h : ly.toNat < 154) : nextLine ly = 0 ↔ ly.toNat = 153 := by
  have next := nextLine_toNat ly
  constructor
  · intro zero
    rw [zero] at next
    simp only [BitVec.reduceToNat] at next
    omega
  · intro last
    exact BitVec.eq_of_toNat_eq (next.trans (by rw [last]; rfl))

/-- Where the PPU stands after a T-cycle, and its mode there. -/
theorem Ppu.tick_position {mem : Memory} {p : Ppu} {iflag : BitVec 5} (on : p.lcdOn = true)
    (running : p.enableDelay = 0) {q : Ppu} (h : q = (p.tick mem iflag).1) :
    q.cycleCount = (if p.cycleCount + 1 = 456 then 0 else p.cycleCount + 1) ∧
    q.ly = (if p.cycleCount + 1 = 456 then nextLine p.ly else p.ly) ∧
    q.lcdc = p.lcdc ∧ q.enableDelay = 0 ∧ q.mode = modeFor q.ly.toNat q.cycleCount := by
  subst h
  split
  case isTrue last =>
    rw [Ppu.tick_lineEnd on running last]
    obtain ⟨_, _, _, _, _, _, _, only⟩ := p.lineStart.changeMode_only mem (p.endLine iflag).2
    rw [only]
    exact ⟨rfl, rfl, rfl, running, rfl⟩
  case isFalse within =>
    rw [Ppu.tick_within on running within]
    obtain ⟨_, _, _, _, _, _, _, only⟩ := Ppu.changeMode_only mem { p with cycleCount := p.cycleCount + 1 } iflag
    rw [only]
    exact ⟨rfl, rfl, rfl, running, rfl⟩

/-- The window's two fields at the end of a line: no mode 3 is entered there. -/
theorem Ppu.tick_window_lineEnd {mem : Memory} {p : Ppu} {iflag : BitVec 5} (on : p.lcdOn = true)
    (running : p.enableDelay = 0) (last : p.cycleCount + 1 = 456) :
    (p.tick mem iflag).1.windowDrawn = false ∧ (p.tick mem iflag).1.windowLine = p.lineStart.windowLine := by
  have noTransfer : modeFor p.lineStart.ly.toNat p.lineStart.cycleCount ≠ .transfer := by
    have start : p.lineStart.cycleCount = 0 := rfl
    rw [start, modeFor]
    split <;> simp
  rw [Ppu.tick_lineEnd on running last]
  refine ⟨Ppu.changeMode_windowDrawn (.inl noTransfer), ?_⟩
  obtain ⟨_, _, _, _, _, _, _, only⟩ := p.lineStart.changeMode_only mem (p.endLine iflag).2
  rw [only]

theorem Ppu.tick_window_within {mem : Memory} {p : Ppu} {iflag : BitVec 5} (on : p.lcdOn = true)
    (running : p.enableDelay = 0) (within : p.cycleCount + 1 ≠ 456) :
    (p.tick mem iflag).1.windowLine = p.windowLine ∧
    ((p.tick mem iflag).1.mode ≠ .transfer ∨ p.mode = .transfer →
      (p.tick mem iflag).1.windowDrawn = p.windowDrawn) := by
  rw [Ppu.tick_within on running within]
  obtain ⟨_, _, _, _, _, _, _, only⟩ := Ppu.changeMode_only mem { p with cycleCount := p.cycleCount + 1 } iflag
  refine ⟨by rw [only], fun h => Ppu.changeMode_windowDrawn ?_⟩
  rw [only] at h
  exact h

/-- Settles O47: the position moves by one, the mode is the table's, and the line's end moves the window counter. -/
theorem scanlineTick : Obligations.ScanlineTick := by
  unfold Obligations.ScanlineTick
  intro mem p iflag on running cycle line q tick
  obtain ⟨position, ly, lcdc, delay, mode⟩ := Ppu.tick_position on running tick
  have next := nextLine_toNat p.ly
  rw [mode]
  refine ⟨?_, ?_, lcdc, delay, fun visible h => modeFor_below_80 (by omega) (by omega),
    fun visible low h => modeFor_below_252 (by omega) low (by omega), fun visible h => modeFor_from_252 (by omega) h,
    fun h => modeFor_vblank h _, fun last => ?_, fun within => ?_⟩
  · rw [position]
    split_ifs <;> omega
  · rw [ly]
    split_ifs <;> omega
  · subst tick
    obtain ⟨drawn, counter⟩ := Ppu.tick_window_lineEnd (mem := mem) (iflag := iflag) on running (by omega)
    refine ⟨drawn, counter.trans ?_⟩
    simp only [Ppu.lineStart, nextLine_eq_zero_iff line]
  · rw [← mode]
    subst tick
    exact Ppu.tick_window_within on running (by omega)

/-! ### The position in the frame (R484) -/

/-- Settles O48: each T-cycle moves the position by one, by induction. -/
theorem framePosition : Obligations.FramePosition := by
  unfold Obligations.FramePosition
  rintro mem p iflag n on running cycle line q rfl
  induction n generalizing p iflag with
  | zero =>
    have small : 456 * p.ly.toNat + p.cycleCount < 70224 := by omega
    exact ⟨on, running, cycle, line, (Nat.mod_eq_of_lt small).symm⟩
  | succ n ih =>
    obtain ⟨position, ly, lcdc, delay, -⟩ := Ppu.tick_position (mem := mem) (iflag := iflag) on running rfl
    have next := nextLine_toNat p.ly
    have on' : (p.tick mem iflag).1.lcdOn = true := by rw [Ppu.lcdOn, lcdc]; exact on
    have moved : (p.tick mem iflag).1.cycleCount < 456 ∧ (p.tick mem iflag).1.ly.toNat < 154 ∧
        456 * (p.tick mem iflag).1.ly.toNat + (p.tick mem iflag).1.cycleCount =
          (456 * p.ly.toNat + p.cycleCount + 1) % 70224 := by
      rw [position, ly]
      split <;> omega
    obtain ⟨cycle', line', total⟩ := moved
    obtain ⟨on'', running'', cycle'', line'', sum⟩ :=
      ih (p.tick mem iflag).1 (p.tick mem iflag).2 on' delay cycle' line'
    refine ⟨on'', running'', cycle'', line'', sum.trans ?_⟩
    rw [total]
    omega

/-! ### The mode changes of a coherent PPU, one by one (R485, R486) -/

section
variable {mem : Memory} {p : Ppu} {iflag : BitVec 5} (on : p.lcdOn = true) (running : p.enableDelay = 0)
  (due : p.mode = modeFor p.ly.toNat p.cycleCount)
include on running due

/-- A line starts in mode 2, or in mode 1 from line 144 on, which is entered once. -/
theorem Ppu.tick_lineStart (line : p.ly.toNat < 154) (last : p.cycleCount + 1 = 456) :
    ((nextLine p.ly).toNat < 144 → p.tick mem iflag = p.lineStart.enterOamSearch (p.endLine iflag).2) ∧
    ((nextLine p.ly).toNat = 144 → p.tick mem iflag = p.lineStart.enterVblank (p.endLine iflag).2) ∧
    (144 < (nextLine p.ly).toNat → p.tick mem iflag = (p.lineStart, (p.endLine iflag).2)) := by
  have next := nextLine_toNat p.ly
  have before : p.lineStart.mode = modeFor p.ly.toNat 455 := due.trans (by rw [show p.cycleCount = 455 by omega])
  have hblank : p.ly.toNat < 144 → p.lineStart.mode = .hblank := fun h =>
    before.trans (modeFor_from_252 h (by decide))
  have vblank : 144 ≤ p.ly.toNat → p.lineStart.mode = .vblank := fun h => before.trans (modeFor_vblank h _)
  rw [Ppu.tick_lineEnd on running last]
  refine ⟨fun h => ?_, fun h => ?_, fun h => ?_⟩
  · have new : modeFor p.lineStart.ly.toNat p.lineStart.cycleCount = .oamSearch :=
      modeFor_below_80 h (show 0 < 80 by decide)
    rw [Ppu.changeMode_new, new]
    · rfl
    · obtain visible | blank := Nat.lt_or_ge p.ly.toNat 144
      · rw [new, hblank visible]; decide
      · rw [new, vblank blank]; decide
  · have new : modeFor p.lineStart.ly.toNat p.lineStart.cycleCount = .vblank := modeFor_vblank (Nat.le_of_eq h.symm) _
    rw [Ppu.changeMode_new, new]
    · rfl
    · rw [new, hblank (by omega)]; decide
  · have new : modeFor p.lineStart.ly.toNat p.lineStart.cycleCount = .vblank := modeFor_vblank (Nat.le_of_lt h) _
    rw [Ppu.changeMode_same (by rw [new, vblank (by omega)])]

/-- Within a visible line mode 3 is entered at cycle 80 and mode 0 at 252. -/
theorem Ppu.tick_inLine (within : p.cycleCount + 1 < 456) :
    (p.ly.toNat < 144 → p.cycleCount + 1 = 80 →
      p.tick mem iflag = (Ppu.enterTransfer mem { p with cycleCount := p.cycleCount + 1 }, iflag)) ∧
    (p.ly.toNat < 144 → p.cycleCount + 1 = 252 →
      p.tick mem iflag = Ppu.enterHblank { p with cycleCount := p.cycleCount + 1 } iflag) ∧
    (144 ≤ p.ly.toNat ∨ (p.cycleCount + 1 ≠ 80 ∧ p.cycleCount + 1 ≠ 252) →
      p.tick mem iflag = ({ p with cycleCount := p.cycleCount + 1 }, iflag)) := by
  rw [Ppu.tick_within on running (by omega)]
  refine ⟨fun visible h => ?_, fun visible h => ?_, fun h => Ppu.changeMode_same ?_⟩
  · have new : modeFor p.ly.toNat (p.cycleCount + 1) = .transfer := modeFor_below_252 visible (by omega) (by omega)
    have old : p.mode = .oamSearch := due.trans (modeFor_below_80 visible (by omega))
    rw [Ppu.changeMode_new (by rw [new, old]; decide), new]
    rfl
  · have new : modeFor p.ly.toNat (p.cycleCount + 1) = .hblank := modeFor_from_252 visible (by omega)
    have old : p.mode = .transfer := due.trans (modeFor_below_252 visible (by omega) (by omega))
    rw [Ppu.changeMode_new (by rw [new, old]; decide), new]
    rfl
  · exact (modeFor_succ h).trans due.symm

end

/-! ### The requests of a T-cycle (R486 to R488) -/

theorem requestIf_stat (a : Bool) (iflag : BitVec 5) :
    requestIf a .stat iflag = iflag ||| 0#5 ||| (if a then 2#5 else 0#5) := by
  cases a <;> simp [requestIf, request, Interrupt.mask]

/-- Two requests of one interrupt are one. -/
theorem requestIf_requestIf (a b : Bool) (i : Interrupt) (iflag : BitVec 5) :
    requestIf a i (requestIf b i iflag) = requestIf (b || a) i iflag := by
  cases a <;> cases b <;> simp [requestIf, request, BitVec.or_assoc]

theorem requestIf_stat_vblank (a b : Bool) (iflag : BitVec 5) :
    requestIf a .stat (request .vblank (requestIf b .stat iflag)) =
      iflag ||| 1#5 ||| (if a || b then 2#5 else 0#5) := by
  revert a b iflag; decide

theorem Ppu.endLine_request (p : Ppu) (iflag : BitVec 5) : (p.endLine iflag).2 =
    requestIf (p.lycEnable && !p.coincidence && decide ((nextLine p.ly).toNat = p.lyc.toNat)) .stat iflag := by
  simp only [Ppu.endLine_eq, BitVec.toNat_inj]

/-- Settles O49: the mode changes of a T-cycle one by one, each with its requests. -/
theorem ppuInterrupts : Obligations.PpuInterrupts := by
  unfold Obligations.PpuInterrupts
  rintro params mem p iflag inv on running ly cycle rfl rfl
  obtain ⟨bound, line, mode, -⟩ := inv
  have due : p.mode = modeFor p.ly.toNat p.cycleCount := by simpa [Ppu.dueMode, on, running] using mode
  by_cases last : p.cycleCount + 1 = 456
  · have start : (p.cycleCount + 1) % 456 = 0 := by omega
    have next := nextLine_toNat p.ly
    have same : decide (nextLine p.ly = p.lyc) = decide ((nextLine p.ly).toNat = p.lyc.toNat) := by
      simp only [BitVec.toNat_inj]
    rw [start, if_pos last, ← next]
    obtain ⟨search, vblank, blank⟩ := Ppu.tick_lineStart (mem := mem) (iflag := iflag) on running due line last
    rw [p.endLine_request] at search vblank blank
    obtain h | h | h := Nat.lt_trichotomy (nextLine p.ly).toNat 144
    · rw [search h, Ppu.enterOamSearch, requestIf_requestIf, Bool.or_comm, requestIf_stat]
      refine ⟨?_, same, ?_⟩
      · simp [h, Nat.ne_of_lt h, Ppu.mode2Enable, Ppu.lycEnable, and_assoc]
      · simp [Nat.ne_of_lt h]
    · rw [vblank h, Ppu.enterVblank, requestIf_stat_vblank]
      refine ⟨?_, same, ?_⟩
      · simp [h, Ppu.mode1Enable, Ppu.lycEnable, and_assoc]
      · simp [h]
    · rw [blank h, requestIf_stat]
      refine ⟨?_, same, ?_⟩
      · simp [Nat.lt_asymm h, Nat.ne_of_gt h, Ppu.lycEnable, and_assoc]
      · simp [Nat.ne_of_gt h]
  · have within : p.cycleCount + 1 < 456 := by omega
    rw [Nat.mod_eq_of_lt within, if_neg last]
    simp only [Nat.succ_ne_zero, and_false, false_and, false_or, or_false, if_false]
    obtain ⟨transfer, hblank, still⟩ := Ppu.tick_inLine (mem := mem) (iflag := iflag) on running due within
    by_cases entry : p.ly.toNat < 144 ∧ (p.cycleCount + 1 = 80 ∨ p.cycleCount + 1 = 252)
    · obtain ⟨visible, h | h⟩ := entry
      · rw [transfer visible h, h]
        exact ⟨by simp, rfl, rfl⟩
      · rw [hblank visible h, h, Ppu.enterHblank, requestIf_stat]
        exact ⟨by simp [visible, Ppu.mode0Enable], rfl, rfl⟩
    · rw [still (by omega), if_neg (by omega)]
      exact ⟨by simp, rfl, rfl⟩

end Sys2Proof.Machine

/-! # Switching the LCD (62_ppu.md R490 to R492) -/

namespace Sys2Proof.Machine

section
variable {params : Params} {p : Ppu} {v : Byte} {iflag : BitVec 5}

/-- Bit 7 going down stops the LCD, and requests nothing (R490). -/
theorem Ppu.writeLcdc_off (on : p.lcdc.getLsbD 7 = true) (off : v.getLsbD 7 = false) :
    p.writeLcdc params v iflag =
      ({ p with lcdc := v, ly := 0, mode := .hblank, cycleCount := 0, windowLine := 0, windowDrawn := false,
                enableDelay := 0, coincidence := decide (p.lyc = 0) }, iflag) := by
  have edge : (p.lcdOn && !v.getLsbD 7) = true := by rw [Ppu.lcdOn, on, off]; rfl
  simp only [Ppu.writeLcdc, if_pos edge, Ppu.disableLcd, ite_self, eq_comm (a := p.lyc)]

/-- Bit 7 going up starts the LCD (R491); with the window line counter at 0 bit 5 has nothing to clear. -/
theorem Ppu.writeLcdc_on (off : p.lcdc.getLsbD 7 = false) (on : v.getLsbD 7 = true) :
    p.writeLcdc params v iflag = Ppu.enableLcd params { p with lcdc := v } iflag := by
  have noEdge : (p.lcdOn && !v.getLsbD 7) = false := by rw [Ppu.lcdOn, off]; rfl
  have edge : (!p.lcdOn && v.getLsbD 7) = true := by rw [Ppu.lcdOn, off, on]; rfl
  simp only [Ppu.writeLcdc, noEdge, if_pos edge, Bool.false_eq_true, if_false]
  unfold Ppu.enableLcd
  cases params.lcdEnable <;> exact ite_self _

/-- Bit 7 left as it was: the store, and bit 5 (R492). -/
theorem Ppu.writeLcdc_keep (same : p.lcdc.getLsbD 7 = v.getLsbD 7) :
    p.writeLcdc params v iflag =
      ({ p with lcdc := v,
                windowLine := if p.lcdc.getLsbD 5 = false ∧ v.getLsbD 5 = true then 0 else p.windowLine }, iflag) := by
  have edge5 : (!p.lcdc.getLsbD 5 && v.getLsbD 5) = true ↔ p.lcdc.getLsbD 5 = false ∧ v.getLsbD 5 = true := by
    rw [Bool.and_eq_true, Bool.not_eq_true']
  simp only [Ppu.writeLcdc, Ppu.lcdOn, same, Bool.and_not_self, Bool.not_and_self, Bool.false_eq_true, if_false, edge5]
  split <;> rfl

/-- The registers of a coherent PPU while the LCD is off. -/
theorem Ppu.Inv.off (inv : p.Inv params) (off : p.lcdc.getLsbD 7 = false) :
    p.ly = 0 ∧ p.cycleCount = 0 ∧ p.windowLine = 0 ∧ p.windowDrawn = false ∧ p.enableDelay = 0 := by
  obtain ⟨-, -, -, -, atRest, -⟩ := inv
  exact atRest off

/-- A coherent PPU that starts: the coincidence bit, and mode 2 at once or the delay. -/
theorem Ppu.enableLcd_eq (inv : p.Inv params) (off : p.lcdc.getLsbD 7 = false) :
    (params.lcdEnable = .none → Ppu.enableLcd params { p with lcdc := v } iflag =
      ({ p with lcdc := v, mode := .oamSearch, coincidence := decide (p.lyc = 0) },
       requestIf ((p.lycEnable && !p.coincidence && decide (p.lyc = 0)) || p.mode2Enable) .stat iflag)) ∧
    (params.lcdEnable = .four → Ppu.enableLcd params { p with lcdc := v } iflag =
      ({ p with lcdc := v, enableDelay := 4, coincidence := decide (p.lyc = 0) },
       requestIf (p.lycEnable && !p.coincidence && decide (p.lyc = 0)) .stat iflag)) := by
  obtain ⟨ly, cycle, windowLine, drawn, delay⟩ := Ppu.Inv.off inv off
  constructor
  · intro variant
    rw [← requestIf_requestIf]
    simp only [Ppu.enableLcd, variant, Ppu.updateCoincidence, Ppu.enterOamSearch, ly, cycle, windowLine, drawn,
      eq_comm (a := p.lyc)]
    rfl
  · intro variant
    simp only [Ppu.enableLcd, variant, Ppu.updateCoincidence, ly, cycle, windowLine, drawn, eq_comm (a := p.lyc)]
    rfl

end

theorem Ppu.advance_add (mem : Memory) (m n : Nat) (r : Ppu × BitVec 5) :
    Ppu.advance mem (m + n) r = Ppu.advance mem n (Ppu.advance mem m r) := by
  induction m generalizing r with
  | zero => rw [Nat.zero_add]; rfl
  | succ m ih => rw [Nat.succ_add]; exact ih _

/-! ### While the LCD is off, and while its enable delay runs (R481, R491) -/

theorem Ppu.advance_off {mem : Memory} {p : Ppu} (n : Nat) (iflag : BitVec 5) (off : p.lcdc.getLsbD 7 = false) :
    Ppu.advance mem n (p, iflag) = ({ p with lcdOffCycles := p.lcdOffCycles + n }, iflag) := by
  induction n generalizing p with
  | zero => rfl
  | succ n ih =>
    have tick : p.tick mem iflag = ({ p with lcdOffCycles := p.lcdOffCycles + 1 }, iflag) :=
      if_neg (by rw [Ppu.lcdOn, off]; decide)
    rw [Ppu.advance, tick, ih (p := { p with lcdOffCycles := p.lcdOffCycles + 1 }) off, Nat.add_comm n 1, Nat.add_assoc]

section
variable {mem : Memory} {p : Ppu} {iflag : BitVec 5} (on : p.lcdOn = true)
include on

theorem Ppu.advance_delay {n k : Nat} (h : p.enableDelay = n + (k + 1)) :
    Ppu.advance mem n (p, iflag) = ({ p with enableDelay := k + 1 }, iflag) := by
  induction n generalizing p with
  | zero => rw [← Nat.zero_add (k + 1), ← h]; rfl
  | succ n ih =>
    have tick : p.tick mem iflag = ({ p with enableDelay := n + (k + 1) }, iflag) := by
      simp only [Ppu.tick, on, if_true, show p.enableDelay = n + k + 2 by omega]
      rfl
    rw [Ppu.advance, tick, ih (p := { p with enableDelay := n + (k + 1) }) on rfl]

/-- The last T-cycle of the delay enters mode 2. -/
theorem Ppu.tick_delayEnd (h : p.enableDelay = 1) :
    p.tick mem iflag = ({ p with enableDelay := 0, mode := .oamSearch }, requestIf p.mode2Enable .stat iflag) := by
  simp only [Ppu.tick, on, if_true, h]
  rfl

theorem Ppu.advance_delayEnd {n : Nat} (h : p.enableDelay = n + 1) : Ppu.advance mem (n + 1) (p, iflag) =
    ({ p with enableDelay := 0, mode := .oamSearch }, requestIf p.mode2Enable .stat iflag) := by
  rw [Ppu.advance_add, Ppu.advance_delay on h]
  exact Ppu.tick_delayEnd (mem := mem) (iflag := iflag) (p := { p with enableDelay := 1 }) on rfl

end

/-- The four T-cycles of the delay. -/
theorem Ppu.advance_delayFour {mem : Memory} {p : Ppu} {iflag : BitVec 5} {n : Nat} (on : p.lcdOn = true)
    (h : p.enableDelay = 4) (short : n < 4) :
    Ppu.advance mem n (p, iflag) = ({ p with enableDelay := 4 - n }, iflag) ∧
    Ppu.advance mem 4 (p, iflag) = ({ p with enableDelay := 0, mode := .oamSearch },
      requestIf p.mode2Enable .stat iflag) := by
  obtain ⟨k, left⟩ : ∃ k, 4 - n = k + 1 := ⟨3 - n, by omega⟩
  rw [left]
  exact ⟨Ppu.advance_delay on (by omega), Ppu.advance_delayEnd on h⟩

/-- Settles O50: the write by its bit-7 edge, then the T-cycles of the delay or of the LCD that is off. -/
theorem lcdSwitch : Obligations.LcdSwitch := by
  unfold Obligations.LcdSwitch
  intro s v
  have write : s.memWrite 0xFF40 v = s.setPpu (s.ppu.writeLcdc s.params v s.iflag) := s.memWrite_register 0x40 v
  refine ⟨fun on off => ?_, fun inv off on newly named => ?_, fun same => ?_, fun off mem n => Ppu.advance_off n _ off⟩
  · rw [write, Ppu.writeLcdc_off on off]; rfl
  · have edge := Ppu.writeLcdc_on (params := s.params) (iflag := s.iflag) off on
    obtain ⟨none, four⟩ := Ppu.enableLcd_eq (v := v) (iflag := s.iflag) inv off
    subst named
    refine ⟨fun variant => ?_, fun variant => ?_⟩
    · rw [write, edge, none variant]; rfl
    · have started := four variant
      rw [write, edge, started]
      refine ⟨rfl, ?_⟩
      rintro w n rfl short
      rw [State.setPpu_ppu, State.setPpu_iflag]
      exact Ppu.advance_delayFour (p := { s.ppu with lcdc := v, enableDelay := 4, coincidence := _ }) on rfl short
  · rw [write, Ppu.writeLcdc_keep same]; rfl

end Sys2Proof.Machine

/-! # A coherent PPU stays coherent (62_ppu.md R480, R481; 70_reset_and_hazards.md R648) -/

namespace Sys2Proof.Machine

/-! ### The frames -/

/-- The frames, the line of background ids and the frozen pair base are within their shapes (R481). -/
def Ppu.Shaped (p : Ppu) : Prop :=
  p.frozenPairBase ≤ 156 ∧ FrameShape p.framebuffer ∧ FrameShape p.presentedFrame ∧ p.bgId.length = 160

theorem Ppu.shadeLine_length (m : Memory) (p : Ppu) (sprites : List Sprite) (x : Nat) (ids : List Shade) :
    (p.shadeLine m sprites x ids).length = ids.length := by
  induction ids generalizing x with
  | nil => rfl
  | cons bg rest ih => simp only [Ppu.shadeLine, List.length_cons, ih]

theorem FrameShape.set {f : List (List Shade)} (h : FrameShape f) (line : Nat) {row : List Shade}
    (width : row.length = 160) : FrameShape (f.set line row) := by
  obtain ⟨height, rows⟩ := h
  refine ⟨(List.length_set ..).trans height, List.all_eq_true.mpr fun r hr => ?_⟩
  obtain old | rfl := List.mem_or_eq_of_mem_set hr
  · exact List.all_eq_true.mp rows r old
  · exact decide_eq_true width

theorem Ppu.renderLine_shaped (mem : Memory) {p : Ppu} (h : p.Shaped) : (p.renderLine mem).Shaped := by
  obtain ⟨base, frame, presented, -⟩ := h
  have width : ((List.range 160).map (p.layerPixel mem)).length = 160 := by
    rw [List.length_map, List.length_range]
  exact ⟨base, frame.set _ ((Ppu.shadeLine_length ..).trans width), presented, width⟩

theorem Ppu.enterMode_shaped (mem : Memory) (m : PpuMode) {p : Ppu} (h : p.Shaped) (iflag : BitVec 5) :
    (p.enterMode mem m iflag).1.Shaped := by
  obtain ⟨base, frame, presented, ids⟩ := h
  cases m with
  | transfer => exact Ppu.renderLine_shaped mem ⟨Nat.le_refl 156, frame, presented, ids⟩
  | vblank => exact ⟨base, frame, frame, ids⟩
  | oamSearch | hblank => exact ⟨base, frame, presented, ids⟩

theorem Ppu.changeMode_shaped (mem : Memory) {p : Ppu} (h : p.Shaped) (iflag : BitVec 5) :
    (p.changeMode mem iflag).1.Shaped := by
  by_cases same : modeFor p.ly.toNat p.cycleCount = p.mode
  · rw [Ppu.changeMode_same same]; exact h
  · rw [Ppu.changeMode_new same]; exact Ppu.enterMode_shaped mem _ h iflag

/-! ### The registers -/

section
variable {params : Params} {p : Ppu}

theorem Ppu.Inv.shaped (h : p.Inv params) : p.Shaped := by
  obtain ⟨-, -, -, -, -, -, shaped⟩ := h
  exact shaped

/-- A running PPU is coherent when its position is in range and its mode the table's. -/
theorem Ppu.inv_of_running (on : p.lcdOn = true) (running : p.enableDelay = 0) (cycle : p.cycleCount < 456)
    (line : p.ly.toNat < 154) (mode : p.mode = modeFor p.ly.toNat p.cycleCount) (shaped : p.Shaped) :
    p.Inv params := by
  refine ⟨cycle, line, ?_, ?_, fun off => ?_, fun delay => absurd running delay, shaped⟩
  · rw [mode, Ppu.dueMode, on, running]; rfl
  · rw [running]; exact Nat.zero_le _
  · rw [on] at off; cases off

/-- The position moves within the frame and the mode change follows it. -/
theorem Ppu.scan_inv {mem : Memory} {iflag : BitVec 5} (h : p.Inv params) (on : p.lcdOn = true)
    (running : p.enableDelay = 0) : (p.tick mem iflag).1.Inv params := by
  obtain ⟨cycle, line, -⟩ := id h
  obtain ⟨position, ly, lcdc, delay, mode⟩ := Ppu.tick_position (mem := mem) (iflag := iflag) on running rfl
  have next := nextLine_toNat p.ly
  refine Ppu.inv_of_running ?_ delay ?_ ?_ mode ?_
  · rw [Ppu.lcdOn, lcdc]; exact on
  · rw [position]; split <;> omega
  · rw [ly]; split <;> omega
  · by_cases last : p.cycleCount + 1 = 456
    · rw [Ppu.tick_lineEnd on running last]
      exact Ppu.changeMode_shaped mem (p := p.lineStart) h.shaped _
    · rw [Ppu.tick_within on running last]
      exact Ppu.changeMode_shaped mem (p := { p with cycleCount := p.cycleCount + 1 }) h.shaped iflag

/-- While the enable delay runs the mode is 0 (R491). -/
theorem Ppu.dueMode_of_delayed (h : p.enableDelay ≠ 0) : p.dueMode = .hblank := by
  simp [Ppu.dueMode, h]

theorem Ppu.dueMode_of_off (h : p.lcdOn = false) : p.dueMode = .hblank := by
  simp [Ppu.dueMode, h]

/-- A PPU whose enable delay runs is coherent at the start of line 0 in mode 0. -/
theorem Ppu.inv_of_delayed (on : p.lcdOn = true) (delay : p.enableDelay ≠ 0)
    (bound : p.enableDelay ≤ enableDelayBound params.lcdEnable) (ly : p.ly = 0) (cycle : p.cycleCount = 0)
    (mode : p.mode = .hblank) (shaped : p.Shaped) : p.Inv params := by
  refine ⟨by rw [cycle]; decide, by rw [ly]; decide, mode.trans (Ppu.dueMode_of_delayed delay).symm, bound,
    fun off => ?_, fun _ => ⟨ly, cycle⟩, shaped⟩
  rw [on] at off
  cases off

/-- A PPU that is off is coherent at rest in mode 0 (R490). -/
theorem Ppu.inv_of_off (off : p.lcdOn = false) (ly : p.ly = 0) (cycle : p.cycleCount = 0)
    (windowLine : p.windowLine = 0) (drawn : p.windowDrawn = false) (delay : p.enableDelay = 0)
    (mode : p.mode = .hblank) (shaped : p.Shaped) : p.Inv params :=
  ⟨by rw [cycle]; decide, by rw [ly]; decide, mode.trans (Ppu.dueMode_of_off off).symm,
    by rw [delay]; exact Nat.zero_le _, fun _ => ⟨ly, cycle, windowLine, drawn, delay⟩,
    fun running => absurd delay running, shaped⟩

theorem Ppu.tick_inv (mem : Memory) (h : p.Inv params) (iflag : BitVec 5) : (p.tick mem iflag).1.Inv params := by
  cases on : p.lcdOn with
  | false =>
    have tick : p.tick mem iflag = ({ p with lcdOffCycles := p.lcdOffCycles + 1 }, iflag) := if_neg (by rw [on]; decide)
    rw [tick]
    exact h
  | true =>
    obtain ⟨cycle, line, mode, bound, -, delayed, shaped⟩ := id h
    match delay : p.enableDelay with
    | 0 => exact Ppu.scan_inv h on delay
    | 1 =>
      obtain ⟨ly, start⟩ := delayed (by rw [delay]; decide)
      have table : PpuMode.oamSearch = modeFor p.ly.toNat p.cycleCount := by rw [ly, start]; rfl
      rw [Ppu.tick_delayEnd on delay]
      exact Ppu.inv_of_running on rfl cycle line table shaped
    | n + 2 =>
      have running : p.enableDelay ≠ 0 := by rw [delay]; exact Nat.succ_ne_zero _
      obtain ⟨ly, start⟩ := delayed running
      have tick : p.tick mem iflag = ({ p with enableDelay := n + 1 }, iflag) :=
        Ppu.advance_delay (n := 1) on (by omega)
      rw [tick]
      exact Ppu.inv_of_delayed on (Nat.succ_ne_zero n) (show n + 1 ≤ _ by omega) ly start
        (mode.trans (Ppu.dueMode_of_delayed running)) shaped

theorem Ppu.advance_inv (mem : Memory) (n : Nat) {r : Ppu × BitVec 5} (h : r.1.Inv params) :
    (Ppu.advance mem n r).1.Inv params := by
  induction n generalizing r with
  | zero => exact h
  | succ n ih => exact ih (Ppu.tick_inv mem h r.2)

/-! ### The write of LCDC, by its bit-7 edge (R490 to R492) -/

theorem Ppu.writeLcdc_inv (h : p.Inv params) (v : Byte) (iflag : BitVec 5) :
    (p.writeLcdc params v iflag).1.Inv params := by
  obtain ⟨cycle, line, mode, bound, atRest, delayed, shaped⟩ := id h
  by_cases same : p.lcdc.getLsbD 7 = v.getLsbD 7
  · rw [Ppu.writeLcdc_keep same]
    have due := congrArg (fun on : Bool =>
      if on && decide (p.enableDelay = 0) then modeFor p.ly.toNat p.cycleCount else PpuMode.hblank) same
    refine ⟨cycle, line, mode.trans due, bound, fun off => ?_, delayed, shaped⟩
    obtain ⟨ly, start, windowLine, drawn, delay⟩ := atRest (same.trans off)
    exact ⟨ly, start, by rw [windowLine]; exact ite_self _, drawn, delay⟩
  · cases on : p.lcdc.getLsbD 7 with
    | true =>
      have off : v.getLsbD 7 = false := by rw [on] at same; simpa using same
      rw [Ppu.writeLcdc_off on off]
      exact Ppu.inv_of_off off rfl rfl rfl rfl rfl rfl shaped
    | false =>
      have up : v.getLsbD 7 = true := by rw [on] at same; simpa using same
      obtain ⟨ly, start, -, -, delay⟩ := Ppu.Inv.off h on
      obtain ⟨none, four⟩ := Ppu.enableLcd_eq (v := v) (iflag := iflag) h on
      rw [Ppu.writeLcdc_on on up]
      cases variant : params.lcdEnable with
      | none =>
        have table : PpuMode.oamSearch = modeFor p.ly.toNat p.cycleCount := by rw [ly, start]; rfl
        rw [none variant]
        exact Ppu.inv_of_running up delay cycle line table shaped
      | four =>
        have mode0 : p.mode = .hblank := Ppu.mode_of_lcdOff h on
        have four_le : 4 ≤ enableDelayBound params.lcdEnable := by rw [variant]; exact Nat.le_refl 4
        rw [four variant]
        exact Ppu.inv_of_delayed up (Nat.succ_ne_zero 3) four_le ly start mode0 shaped

end

end Sys2Proof.Machine

/-! # What the APU's ticks and writes can do (63_apu.md R540 to R563), and that a coherent APU stays coherent -/

namespace Sys2Proof.Machine

/-! ### Ticks (R550 to R552, R557 to R563) -/

/-- `b` is `a` but for its channels and its sweep, and no length counter of `b` is above that of `a`. -/
structure Apu.Ticked (a b : Apu) : Prop where
  only : b = { a with sweep := b.sweep, ch1 := b.ch1, ch2 := b.ch2, ch3 := b.ch3, ch4 := b.ch4 }
  ch1  : b.ch1.length ≤ a.ch1.length
  ch2  : b.ch2.length ≤ a.ch2.length
  ch3  : b.ch3.length ≤ a.ch3.length
  ch4  : b.ch4.length ≤ a.ch4.length

theorem Apu.Ticked.refl (a : Apu) : a.Ticked a :=
  ⟨rfl, Nat.le_refl _, Nat.le_refl _, Nat.le_refl _, Nat.le_refl _⟩

theorem Apu.Ticked.trans {a b c : Apu} (h : a.Ticked b) (k : b.Ticked c) : a.Ticked c :=
  ⟨k.only.trans (by rw [h.only]), Nat.le_trans k.ch1 h.ch1, Nat.le_trans k.ch2 h.ch2, Nat.le_trans k.ch3 h.ch3,
    Nat.le_trans k.ch4 h.ch4⟩

theorem lengthTick_le (en : Bool) (n : Nat) : lengthTick en n ≤ n := by
  unfold lengthTick
  split
  · exact Nat.sub_le n 1
  · exact Nat.le_refl n

theorem Apu.tickLengths_ticked (a : Apu) : a.Ticked a.tickLengths :=
  ⟨rfl, lengthTick_le .., lengthTick_le .., lengthTick_le .., lengthTick_le ..⟩

theorem Apu.tickEnvelopes_ticked (a : Apu) : a.Ticked a.tickEnvelopes :=
  ⟨rfl, Nat.le_refl _, Nat.le_refl _, Nat.le_refl _, Nat.le_refl _⟩

/-- A sweep tick writes the sweep, and of channel 1 the frequency and whether it is enabled. -/
theorem Apu.tickSweep_only (a : Apu) : ∃ (sweep : Sweep) (frequency : BitVec 11) (enabled : Bool),
    a.tickSweep = { a with sweep := sweep, ch1 := { a.ch1 with frequency := frequency, enabled := enabled } } := by
  simp only [Apu.tickSweep, Apu.applySweep]
  repeat' split
  all_goals exact ⟨_, _, _, rfl⟩

theorem Apu.tickSweep_ticked (a : Apu) : a.Ticked a.tickSweep := by
  obtain ⟨_, _, _, only⟩ := a.tickSweep_only
  rw [only]
  exact ⟨rfl, Nat.le_refl _, Nat.le_refl _, Nat.le_refl _, Nat.le_refl _⟩

theorem Apu.runStep_ticked (k : Nat) (a : Apu) : a.Ticked (Apu.runStep k a) := by
  unfold Apu.runStep
  split
  case h_1 | h_3 => exact a.tickLengths_ticked
  case h_2 | h_4 => exact a.tickLengths_ticked.trans (Apu.tickSweep_ticked _)
  case h_5 => exact a.tickEnvelopes_ticked
  case h_6 => exact .refl a

theorem Pulse.tickTimer_length (k : Nat) (c : Pulse) : (c.tickTimer k).length = c.length := by
  unfold Pulse.tickTimer; split <;> rfl

theorem Wave.tickTimer_length (m : Memory) (c : Wave) : (c.tickTimer m).length = c.length := by
  unfold Wave.tickTimer; split <;> rfl

theorem Noise.tickTimer_length (c : Noise) : c.tickTimer.length = c.length := by
  unfold Noise.tickTimer; split <;> rfl

theorem Apu.tickTimers_ticked (m : Memory) (a : Apu) : a.Ticked (a.tickTimers m) :=
  ⟨rfl, Nat.le_of_eq (a.ch1.tickTimer_length 1), Nat.le_of_eq (a.ch2.tickTimer_length 2),
    Nat.le_of_eq (a.ch3.tickTimer_length m), Nat.le_of_eq a.ch4.tickTimer_length⟩

/-- The sequencer's counters one T-cycle on (R550). -/
def Apu.counted (a : Apu) : Apu :=
  { a with fsCounter := if a.fsCounter + 1 = 8192 then 0 else a.fsCounter + 1,
           fsStep := if a.fsCounter + 1 = 8192 then (a.fsStep + 1) % 8 else a.fsStep }

theorem Apu.tick_ticked {a : Apu} (m : Memory) (on : a.power = true) : a.counted.Ticked (a.tick m) := by
  have sequencer : a.counted.Ticked a.tickSequencer := by
    unfold Apu.tickSequencer Apu.counted
    split
    case isTrue =>
      obtain ⟨only, ch1, ch2, ch3, ch4⟩ := Apu.runStep_ticked a.fsStep { a with fsCounter := 0 }
      exact ⟨by rw [only], ch1, ch2, ch3, ch4⟩
    case isFalse => exact .refl _
  rw [Apu.tick, if_pos on]
  exact sequencer.trans (Apu.tickTimers_ticked m _)

theorem Apu.tick_off {a : Apu} (m : Memory) (off : a.power = false) : a.tick m = a :=
  if_neg (by rw [off]; decide)

/-! ### The invariant under a tick -/

/-- With the power on the ranges are the invariant. -/
theorem Apu.inv_of_power {a : Apu} (on : a.power = true) (counter : a.fsCounter < 8192) (step : a.fsStep < 8)
    (nr50 : a.nr50 &&& 0x88 = 0) (ch1 : a.ch1.length ≤ 64) (ch2 : a.ch2.length ≤ 64) (ch3 : a.ch3.length ≤ 256)
    (ch4 : a.ch4.length ≤ 64) : a.Inv :=
  ⟨counter, step, nr50, ch1, ch2, ch3, ch4, fun off => by rw [on] at off; cases off⟩

theorem Apu.counted_range {a : Apu} (counter : a.fsCounter < 8192) (step : a.fsStep < 8) :
    a.counted.fsCounter < 8192 ∧ a.counted.fsStep < 8 ∧
    a.counted.fsStep * 8192 + a.counted.fsCounter = (a.fsStep * 8192 + a.fsCounter + 1) % 65536 := by
  unfold Apu.counted
  by_cases full : a.fsCounter + 1 = 8192
  · simp only [if_pos full]; omega
  · simp only [if_neg full]; omega

/-- Power and sequencer after a tick with the power on. -/
theorem Apu.tick_sequencer {a : Apu} (m : Memory) (on : a.power = true) :
    (a.tick m).power = true ∧ (a.tick m).fsCounter = a.counted.fsCounter ∧ (a.tick m).fsStep = a.counted.fsStep := by
  obtain ⟨only, -⟩ := Apu.tick_ticked m on
  rw [only]
  exact ⟨on, rfl, rfl⟩

theorem Apu.tick_inv {a : Apu} (m : Memory) (h : a.Inv) : (a.tick m).Inv := by
  cases on : a.power with
  | false => rw [Apu.tick_off m on]; exact h
  | true =>
    obtain ⟨counter, step, nr50, ch1, ch2, ch3, ch4, -⟩ := h
    obtain ⟨counter', step', -⟩ := Apu.counted_range counter step
    obtain ⟨only, le1, le2, le3, le4⟩ := Apu.tick_ticked m on
    rw [only]
    exact Apu.inv_of_power on counter' step' nr50 (Nat.le_trans le1 ch1) (Nat.le_trans le2 ch2) (Nat.le_trans le3 ch3)
      (Nat.le_trans le4 ch4)

theorem Apu.advance_inv (m : Memory) (n : Nat) {a : Apu} (h : a.Inv) : (Apu.advance m n a).Inv := by
  induction n generalizing a with
  | zero => exact h
  | succ n ih => exact ih (Apu.tick_inv m h)

/-! ### The invariant under a write (R543 to R545, R553, R554, R556) -/

theorem Pulse.trigger_length_le (p : Params) {c : Pulse} (h : c.length ≤ 64) : (c.trigger p).length ≤ 64 := by
  simp only [Pulse.trigger]
  split
  · exact Nat.sub_le ..
  · exact h

theorem Wave.trigger_length_le {c : Wave} (h : c.length ≤ 256) : c.trigger.length ≤ 256 := by
  simp only [Wave.trigger]
  split
  · exact Nat.sub_le ..
  · exact h

theorem Noise.trigger_length_le (p : Params) {c : Noise} (h : c.length ≤ 64) : (c.trigger p).length ≤ 64 := by
  simp only [Noise.trigger]
  split
  · exact Nat.sub_le ..
  · exact h

theorem Pulse.writeControl_length_le (p : Params) (extra : Bool) {c : Pulse} (v : Byte) (h : c.length ≤ 64) :
    (c.writeControl p extra v).length ≤ 64 := by
  have less : c.length - 1 ≤ 64 := by omega
  unfold Pulse.writeControl
  cases extra <;> cases v.getLsbD 7
  · exact h
  · exact Pulse.trigger_length_le p h
  · exact less
  · exact Pulse.trigger_length_le p less

section
variable {a : Apu} (h : a.Inv) (on : a.power = true)
include h on

theorem Apu.Inv.setCh1 (sweep : Sweep) {c : Pulse} (length : c.length ≤ 64) :
    Apu.Inv { a with sweep := sweep, ch1 := c } := by
  obtain ⟨counter, step, nr50, -, ch2, ch3, ch4, -⟩ := h
  exact Apu.inv_of_power on counter step nr50 length ch2 ch3 ch4

theorem Apu.Inv.setCh2 {c : Pulse} (length : c.length ≤ 64) : Apu.Inv { a with ch2 := c } := by
  obtain ⟨counter, step, nr50, ch1, -, ch3, ch4, -⟩ := h
  exact Apu.inv_of_power on counter step nr50 ch1 length ch3 ch4

theorem Apu.Inv.setCh3 {c : Wave} (length : c.length ≤ 256) : Apu.Inv { a with ch3 := c } := by
  obtain ⟨counter, step, nr50, ch1, ch2, -, ch4, -⟩ := h
  exact Apu.inv_of_power on counter step nr50 ch1 ch2 length ch4

theorem Apu.Inv.setCh4 {c : Noise} (length : c.length ≤ 64) : Apu.Inv { a with ch4 := c } := by
  obtain ⟨counter, step, nr50, ch1, ch2, ch3, -, -⟩ := h
  exact Apu.inv_of_power on counter step nr50 ch1 ch2 ch3 length

theorem Apu.writeNr14_inv (p : Params) (v : Byte) : (a.writeNr14 p v).Inv := by
  obtain ⟨-, -, -, ch1, -⟩ := id h
  have length := Pulse.writeControl_length_le p
    (a.extraDecrement a.ch1.lengthEnable (v.getLsbD 6) a.ch1.length) v ch1
  simp only [Apu.writeNr14]
  split
  · exact h.setCh1 on _ length
  · exact h.setCh1 on _ length

theorem Apu.writeNr34_inv (v : Byte) : (a.writeNr34 v).Inv := by
  obtain ⟨-, -, -, -, -, ch3, -⟩ := id h
  have less : a.ch3.length - 1 ≤ 256 := by omega
  apply h.setCh3 on
  cases a.extraDecrement a.ch3.lengthEnable (v.getLsbD 6) a.ch3.length <;> cases v.getLsbD 7
  · exact ch3
  · exact Wave.trigger_length_le ch3
  · exact less
  · exact Wave.trigger_length_le less

theorem Apu.writeNr44_inv (p : Params) (v : Byte) : (a.writeNr44 p v).Inv := by
  obtain ⟨-, -, -, -, -, -, ch4, -⟩ := id h
  have less : a.ch4.length - 1 ≤ 64 := by omega
  apply h.setCh4 on
  cases a.extraDecrement a.ch4.lengthEnable (v.getLsbD 6) a.ch4.length <;> cases v.getLsbD 7
  · exact ch4
  · exact Noise.trigger_length_le p ch4
  · exact less
  · exact Noise.trigger_length_le p less

end

theorem Apu.writeNr52_inv {a : Apu} (h : a.Inv) (v : Byte) : (a.writeNr52 v).Inv := by
  obtain ⟨-, -, nr50, ch1, ch2, ch3, ch4, -⟩ := id h
  unfold Apu.writeNr52
  split
  · have nothing : (0 : Byte) &&& 0x88 = 0 := by decide
    exact ⟨Nat.succ_pos 8191, Nat.succ_pos 7, nothing, ch1, ch2, ch3, ch4, fun _ => by simp [Apu.powerOff]⟩
  · split
    · exact Apu.inv_of_power rfl (Nat.succ_pos 8191) (Nat.succ_pos 7) nr50 ch1 ch2 ch3 ch4
    · exact h

theorem nr50_mask (v : Byte) : v &&& 0x77 &&& 0x88 = 0 := by revert v; decide

theorem Apu.writeOn_inv (p : Params) {a : Apu} (h : a.Inv) (on : a.power = true) (reg : Nat) (v : Byte) :
    (a.writeOn p reg v).Inv := by
  obtain ⟨counter, step, nr50, ch1, ch2, ch3, ch4, -⟩ := id h
  unfold Apu.writeOn
  split
  case h_1 | h_3 | h_4 => exact h.setCh1 on _ ch1
  case h_2 => exact h.setCh1 on _ (Nat.sub_le ..)
  case h_5 => exact Apu.writeNr14_inv h on p v
  case h_6 => exact h.setCh2 on (Nat.sub_le ..)
  case h_7 | h_8 => exact h.setCh2 on ch2
  case h_9 => exact h.setCh2 on (Pulse.writeControl_length_le p _ v ch2)
  case h_10 | h_12 | h_13 => exact h.setCh3 on ch3
  case h_11 => exact h.setCh3 on (Nat.sub_le ..)
  case h_14 => exact Apu.writeNr34_inv h on v
  case h_15 => exact h.setCh4 on (Nat.sub_le ..)
  case h_16 | h_17 => exact h.setCh4 on ch4
  case h_18 => exact Apu.writeNr44_inv h on p v
  case h_19 => exact Apu.inv_of_power on counter step (nr50_mask v) ch1 ch2 ch3 ch4
  case h_20 => exact Apu.inv_of_power on counter step nr50 ch1 ch2 ch3 ch4
  case h_21 => exact Apu.writeNr52_inv h v
  case h_22 => exact h

/-- With the power off a write reaches NR52 and the length counters. -/
theorem Apu.writeOff_inv {a : Apu} (h : a.Inv) (reg : Nat) (v : Byte) : (a.writeOff reg v).Inv := by
  obtain ⟨counter, step, nr50, ch1, ch2, ch3, ch4, silent⟩ := id h
  unfold Apu.writeOff
  split
  case h_1 => exact ⟨counter, step, nr50, Nat.sub_le .., ch2, ch3, ch4, silent⟩
  case h_2 => exact ⟨counter, step, nr50, ch1, Nat.sub_le .., ch3, ch4, silent⟩
  case h_3 => exact ⟨counter, step, nr50, ch1, ch2, Nat.sub_le .., ch4, silent⟩
  case h_4 => exact ⟨counter, step, nr50, ch1, ch2, ch3, Nat.sub_le .., silent⟩
  case h_5 => exact Apu.writeNr52_inv h v
  case h_6 => exact h

theorem Apu.write_inv (p : Params) {a : Apu} (h : a.Inv) (reg : Nat) (v : Byte) : (a.write p reg v).Inv := by
  unfold Apu.write
  split
  case isTrue on => exact Apu.writeOn_inv p h on reg v
  case isFalse => exact Apu.writeOff_inv h reg v

end Sys2Proof.Machine

/-! # Coherent states (70_reset_and_hazards.md R648) -/

namespace Sys2Proof.Machine

/-! ### The controller (64_cartridge.md R596 to R598) -/

theorem remapZero_ne_zero {w : Nat} (b : BitVec (w + 1)) : remapZero b ≠ 0 := by
  unfold remapZero
  split
  · exact fun h => absurd (congrArg BitVec.toNat h) (by simp)
  · assumption

theorem Mbc.writeControl_inv {m : Mbc} (h : m.Inv) (a : Nat) (v : Byte) : (m.writeControl a v).Inv := by
  cases m with
  | none => trivial
  | mbc1 en lo hi mode =>
    simp only [Mbc.writeControl]
    split
    · exact h
    · split
      · exact remapZero_ne_zero _
      · split <;> exact h
  | mbc2 en bank =>
    simp only [Mbc.writeControl]
    split
    · split
      · exact h
      · exact remapZero_ne_zero _
    · exact h
  | mbc3 en bank ram =>
    simp only [Mbc.writeControl]
    split
    · exact h
    · split
      · exact remapZero_ne_zero _
      · split <;> exact h
  | mbc5 en bank ram =>
    simp only [Mbc.writeControl]
    repeat' split
    all_goals trivial

theorem State.memWrite_mbc_inv {s : State} (h : s.cart.mbc.Inv) (a : Word) (v : Byte) :
    (s.memWrite a v).cart.mbc.Inv := by
  obtain kept | control | ram := s.memWrite_cart a v
  · rw [kept]; exact h
  · rw [control]; exact Mbc.writeControl_inv h _ v
  · rw [ram, Cartridge.writeRam]; split <;> exact h

/-! ### The devices under a store (20_memory.md R96) -/

/-- The timer's, the PPU's and the APU's parts of a coherent state. -/
def State.DevicesInv (s : State) : Prop := s.timer.Inv s.params ∧ s.ppu.Inv s.params ∧ s.apu.Inv

theorem State.ioWrite_devicesInv {s : State} (h : s.DevicesInv) (reg : Nat) (v : Byte) :
    (s.ioWrite reg v).DevicesInv := by
  obtain ⟨⟨countdown, signal⟩, ppu, apu⟩ := id h
  unfold State.ioWrite
  split
  case h_2 => exact ⟨Timer.edgeCheck_inv (t := { s.timer with counter := 0 }) countdown s.iflag, ppu, apu⟩
  case h_5 => exact ⟨Timer.edgeCheck_inv (t := { s.timer with tac := v.setWidth 3 }) countdown s.iflag, ppu, apu⟩
  case h_3 => exact ⟨⟨Nat.zero_le _, signal⟩, ppu, apu⟩
  case h_7 => exact ⟨⟨countdown, signal⟩, Ppu.writeLcdc_inv ppu v s.iflag, apu⟩
  case h_12 =>
    obtain ⟨m, copy, -, -⟩ := s.oamDma_spec v
    rw [copy]
    exact h
  case h_18 =>
    split
    · exact ⟨⟨countdown, signal⟩, ppu, Apu.write_inv s.params apu reg v⟩
    · split <;> exact h
  all_goals exact h

theorem State.writeOam_devicesInv {s : State} (h : s.DevicesInv) (a : Nat) (v : Byte) :
    (s.writeOam a v).DevicesInv := by
  obtain kept | ⟨w, stored⟩ := s.writeOam_cases a v
  · rw [kept]; exact h
  · rw [stored]; exact h

theorem State.memWrite_devicesInv {s : State} (h : s.DevicesInv) (a : Word) (v : Byte) :
    (s.memWrite a v).DevicesInv := by
  simp only [State.memWrite]
  split
  case h_2 => split <;> exact h
  case h_6 => exact State.writeOam_devicesInv h _ v
  case h_8 => exact State.ioWrite_devicesInv h _ v
  all_goals exact h

/-! ### A store, and the CPU step -/

theorem State.memWrite_inv {s : State} (h : s.Inv) (a : Word) (v : Byte) : (s.memWrite a v).Inv := by
  obtain ⟨ram, rom, xram, size, timer, ppu, apu, audio, mbc⟩ := h
  obtain ⟨ram', rom', xram'⟩ := s.memWrite_wf a v ⟨ram, rom, xram⟩
  obtain ⟨timer', ppu', apu'⟩ := State.memWrite_devicesInv (s := s) ⟨timer, ppu, apu⟩ a v
  have cart := s.memWrite_cartConfig a v
  have host := s.memWrite_hostSide a v
  simp only [State.cartConfig, CartConfig.mk.injEq] at cart
  simp only [State.hostSide, HostSide.mk.injEq] at host
  obtain ⟨-, -, ramSize, -⟩ := cart
  obtain ⟨-, -, -, stream, params⟩ := host
  refine ⟨ram', rom', xram', ramSize ▸ size, timer', ppu', apu', ?_, State.memWrite_mbc_inv mbc a v⟩
  rw [stream, params]
  exact audio

/-- `P` is kept by CPU-only updates, by stores, by a write of IF and by the count of steps. -/
structure Kept (P : State → Prop) : Prop where
  cpu   : ∀ {t u : State}, t.SameBus u → P t → P u
  store : ∀ {t : State} (a : Word) (v : Byte), P t → P (t.memWrite a v)
  iflag : ∀ {t : State} (b : BitVec 5), P t → P { t with iflag := b }
  count : ∀ {t : State} (n : Nat), P t → P { t with stepCount := n }

theorem kept_inv : Kept State.Inv where
  cpu e h := by rw [e]; exact h
  store a v h := State.memWrite_inv h a v
  iflag _ h := h
  count _ h := h

section
variable {P : State → Prop} (kept : Kept P)
include kept

theorem Kept.path {s t : State} (p : CpuPath s t) (h : P s) : P t :=
  p.keeps h (fun _ _ e => kept.cpu e) (fun _ a v => kept.store a v)

theorem Kept.dispatch {s : State} (h : P s) (i : Interrupt) : P (s.dispatch i) := by
  have pushed : P (s.push16 s.pc) := kept.path (push16_path s s.pc) h
  exact kept.cpu (t := { s.push16 s.pc with iflag := (s.push16 s.pc).iflag &&& ~~~i.mask }) rfl (kept.iflag _ pushed)

theorem Kept.endOfStep {s : State} (h : P s) (p : Bool) : P (s.endOfStep p) := by
  have promoted : P (s.promoteEi p) := by
    unfold State.promoteEi
    split
    · exact kept.cpu rfl h
    · exact h
  unfold State.endOfStep
  obtain nothing | ⟨i, taken⟩ := (s.promoteEi p).serviceInterrupt_cases
  · rw [nothing]; exact promoted
  · rw [taken]; exact kept.cpu rfl (kept.dispatch promoted i)

theorem Kept.runInstruction {u t : State} (run : runInstruction u = .next t) (h : P u) : P t := by
  obtain ⟨e, executed, rfl⟩ := runInstruction_cases run
  have fetched : P u.afterFetch := kept.cpu rfl h
  have charged : P (u.charge e) := by
    rw [State.charge_only_tcycles]
    exact kept.cpu rfl (kept.path (exec_path executed) fetched)
  exact kept.endOfStep charged _

theorem Kept.cpuStep {s t : State} (step : cpuStep s = .next t) (h : P s) : P t := by
  have woken : P { s with stepCount := s.stepCount + 1, halted := false } :=
    kept.cpu (t := { s with stepCount := s.stepCount + 1 }) rfl (kept.count _ h)
  obtain ⟨-, -, rfl⟩ | ⟨i, -, -, -, rfl⟩ | run := cpuStep_cases step
  · exact kept.cpu (t := { s with stepCount := s.stepCount + 1 }) rfl (kept.count _ h)
  · exact kept.cpu rfl (kept.dispatch woken i)
  · exact kept.runInstruction run woken

end

/-! ### The system step -/

theorem State.applyInputs_inv {s : State} (h : s.Inv) : s.applyInputs.Inv := by
  rw [State.applyInputs_only]
  exact h

theorem Audio.advance_inv (p : Params) (m : Memory) (n : Nat) (a : Apu) {u : Audio} (h : u.Inv p.sampleRate) :
    (Audio.advance p m n a u).Inv p.sampleRate := by
  obtain ⟨samples, seconds, phase⟩ := h
  obtain ⟨-, -, -, bound⟩ := Audio.advance_spec p m n a u
  exact ⟨samples, seconds, bound phase⟩

theorem State.advanceDevices_inv {s : State} (h : s.Inv) (n : Nat) : (s.advanceDevices n).Inv := by
  obtain ⟨ram, rom, xram, size, timer, ppu, apu, audio, mbc⟩ := h
  exact ⟨ram, rom, xram, size, Timer.advance_inv n timer, Ppu.advance_inv s.ram n ppu, Apu.advance_inv s.ram n apu,
    Audio.advance_inv s.params s.ram n s.apu audio, mbc⟩

/-- Settles O58: the input, the CPU step and the devices' advance each keep the invariant. -/
theorem coherentKept : Obligations.CoherentKept := by
  unfold Obligations.CoherentKept
  intro s t h stepped
  obtain ⟨e, cpu, rfl⟩ := step_cases stepped
  exact State.advanceDevices_inv (kept_inv.cpuStep cpu (State.applyInputs_inv h)) _

/-! ### The state after reset (70_reset_and_hazards.md R612, R614) -/

theorem blankFrame_shape : FrameShape blankFrame := by
  refine ⟨List.length_replicate, List.all_eq_true.mpr fun row h => ?_⟩
  rw [List.eq_of_mem_replicate h]
  exact decide_eq_true List.length_replicate

theorem Timer.reset_inv (params : Params) {io : PostBootIo} (off : io.tac.getLsbD 2 = false) :
    (Timer.reset io).Inv params := by
  have disabled : (Timer.reset io).tac.getLsbD 2 = false := by simpa [Timer.reset] using off
  refine ⟨Nat.zero_le _, ?_⟩
  rw [Timer.signal, disabled]
  rfl

theorem Ppu.reset_inv (params : Params) {io : PostBootIo} (on : io.lcdc.getLsbD 7 = true) (ly : io.ly = 0) :
    (Ppu.reset io).Inv params := by
  have line : (Ppu.reset io).ly = 0 := ly
  have shaped : (Ppu.reset io).Shaped :=
    ⟨Nat.zero_le _, blankFrame_shape, blankFrame_shape, List.length_replicate⟩
  refine Ppu.inv_of_running on rfl (Nat.succ_pos 455) ?_ ?_ shaped
  · rw [line]; decide
  · rw [line]; rfl

theorem Apu.reset_inv {io : PostBootIo} (on : io.nr52.getLsbD 7 = true) : (Apu.reset io).Inv :=
  Apu.inv_of_power on (Nat.succ_pos 8191) (Nat.succ_pos 7) (nr50_mask io.nr50) (Nat.zero_le _) (Nat.zero_le _)
    (Nat.zero_le _) (Nat.zero_le _)

theorem Audio.reset_inv {rate : SampleRate} (samples : 0 < rate.samples) (seconds : 0 < rate.seconds) :
    Audio.reset.Inv rate :=
  ⟨samples, seconds, Nat.mul_pos (by decide) seconds⟩

/-- Settles O59: each device from its registers in the I/O table and the internal state of R614. -/
theorem coherentAtReset : Obligations.CoherentAtReset := by
  unfold Obligations.CoherentAtReset
  have coherent (params : Params) (io : PostBootIo) (cart : Cartridge) (draws : Memory) (ram : draws.wf = true)
      (rom : cart.rom.wf = true) (xram : cart.xram.wf = true) (size : cart.ramSize ≤ 0x20000) (mbc : cart.mbc.Inv)
      (samples : 0 < params.sampleRate.samples) (seconds : 0 < params.sampleRate.seconds)
      (lcd : io.lcdc.getLsbD 7 = true) (ly : io.ly = 0) (tac : io.tac.getLsbD 2 = false)
      (power : io.nr52.getLsbD 7 = true) : (State.resetWith params io cart draws).Inv :=
    ⟨ram, rom, xram, size, Timer.reset_inv params tac, Ppu.reset_inv params lcd ly, Apu.reset_inv power,
      Audio.reset_inv samples seconds, mbc⟩
  exact ⟨coherent Params.reset postBootDmg Cartridge.empty ⟨[]⟩ rfl rfl rfl (Nat.zero_le _) trivial (by decide)
    (by decide) (by decide) rfl (by decide) (by decide), coherent⟩

end Sys2Proof.Machine

/-! # The step and its interrupts (60_exceptions.md R400 to R403, R410 to R421, R431) -/

namespace Sys2Proof.Machine

/-! ### Every step answers (R410) -/

/-- A meaning ends the step with its T-cycles charged, the promotion and the check. -/
theorem runInstruction_of_exec {u t : State} (h : exec u.fetched u.afterFetch = .next t) :
    runInstruction u = .next ((u.charge t).endOfStep u.eiDelayPending) := by
  rw [runInstruction, h]

theorem exec_answers (i : Instr) (s : State) : ∃ t : State, exec i s = .next t := by
  obtain ⟨t, next, -⟩ := exec_ends s i
  exact ⟨t, next⟩

theorem runInstruction_answers (u : State) : ∃ t : State, runInstruction u = .next t := by
  obtain ⟨t, next⟩ := exec_answers u.fetched u.afterFetch
  exact ⟨_, runInstruction_of_exec next⟩

theorem haltedStep_answers (u : State) : ∃ t : State, haltedStep u = .next t := by
  unfold haltedStep
  split
  · exact ⟨_, rfl⟩
  · split
    · exact ⟨_, rfl⟩
    · exact runInstruction_answers _

theorem cpuStep_answers (s : State) : ∃ t : State, cpuStep s = .next t := by
  unfold cpuStep
  split
  · exact haltedStep_answers s.countStep
  · exact runInstruction_answers s.countStep

/-- The devices advance by the T-cycles of the CPU step, on the state it leaves (R401). -/
theorem step_of_cpuStep {s e : State} (h : cpuStep s.applyInputs = .next e) :
    step s = .next (e.advanceDevices e.tcycles) := by
  rw [step, h]

/-- Settles O6: every meaning ends with a next state, so every course of a step does. -/
theorem stepAlwaysAnswers : Obligations.StepAlwaysAnswers := by
  unfold Obligations.StepAlwaysAnswers
  refine ⟨exec_answers, fun s => ?_⟩
  obtain ⟨e, next⟩ := cpuStep_answers s.applyInputs
  exact ⟨_, step_of_cpuStep next⟩

/-! ### Taking an interrupt (R414, R415, R420) -/

theorem State.push16_iflag (s : State) (v : Word) :
    (s.push16 v).iflag = ((s.memWrite (s.sp - 1) (hiByte v)).memWrite (s.sp - 2) (loByte v)).iflag := by
  rw [State.push16_eq]

/-- A dispatch is the two stores of the push and five fields of the CPU. -/
theorem State.dispatch_eq (s : State) (i : Interrupt) :
    s.dispatch i = { (s.memWrite (s.sp - 1) (hiByte s.pc)).memWrite (s.sp - 2) (loByte s.pc) with
      sp := s.sp - 2, ime := false, halted := false, iflag := (s.push16 s.pc).iflag &&& ~~~i.mask,
      pc := i.vector } := by
  rw [State.dispatch, State.push16_eq]

section
variable {s : State} (high : regionOf (s.sp - 1).toNat ∈ [Region.wram, Region.echo, Region.hram])
  (low : regionOf (s.sp - 2).toNat ∈ [Region.wram, Region.echo, Region.hram])
include high low

/-- Stores to WRAM, its echo or HRAM request nothing. -/
theorem State.push16_iflag_plain (v : Word) : (s.push16 v).iflag = s.iflag := by
  rw [State.push16_iflag, State.memWrite_plain low, State.memWrite_plain high]
  rfl

/-- The pushed PC is read back after the dispatch. -/
theorem State.memRead_dispatch (i : Interrupt) :
    (s.dispatch i).memRead (s.sp - 1) = hiByte s.pc ∧ (s.dispatch i).memRead (s.sp - 2) = loByte s.pc := by
  obtain ⟨upper, lower⟩ := State.memRead_push16 high low s.pc
  rw [State.memRead_plain high] at upper ⊢
  rw [State.memRead_plain low] at lower ⊢
  exact ⟨upper, lower⟩

end

/-- Settles O9: a dispatch is the push of PC and five fields of the CPU. -/
theorem dispatchEffect : Obligations.DispatchEffect := by
  unfold Obligations.DispatchEffect
  intro s i
  have hidden := s.push16_hidden s.pc
  refine ⟨by cases i <;> rfl, s.push16_sp s.pc, rfl, rfl, ?_, s.push16_regs s.pc, s.push16_flags s.pc,
    congrArg Hidden.eiDelayPending hidden, congrArg Hidden.haltBugActive hidden, ?_⟩
  · rintro w rfl
    refine ⟨?_, s.dispatch_eq i⟩
    rw [State.dispatch_eq, State.push16_iflag]
    cases i <;> rfl
  · intro high low
    obtain ⟨upper, lower⟩ := State.memRead_dispatch high low i
    refine ⟨upper, lower, ?_⟩
    rw [State.dispatch_eq, State.push16_iflag_plain high low]

/-- The lowest bit set names the interrupt taken (R415). -/
theorem firstInterrupt_of_lowest {p : BitVec 5} {n : Nat} (bound : n < 5) (set : p.getLsbD n = true)
    (lowest : ∀ m : Nat, m < n → p.getLsbD m = false) :
    ∃ i : Interrupt, firstInterrupt p = some i ∧ i.mask = 1#5 <<< n := by
  unfold firstInterrupt
  interval_cases n
  · exact ⟨.vblank, by rw [set]; rfl, rfl⟩
  · exact ⟨.stat, by rw [lowest 0 (by decide), set]; rfl, rfl⟩
  · exact ⟨.timer, by rw [lowest 0 (by decide), lowest 1 (by decide), set]; rfl, rfl⟩
  · exact ⟨.serial, by rw [lowest 0 (by decide), lowest 1 (by decide), lowest 2 (by decide), set]; rfl, rfl⟩
  · exact ⟨.joypad, by
      rw [lowest 0 (by decide), lowest 1 (by decide), lowest 2 (by decide), lowest 3 (by decide), set]; rfl, rfl⟩

theorem firstInterrupt_eq_none {p : BitVec 5} : firstInterrupt p = none ↔ p = 0 := by revert p; decide

theorem State.serviceInterrupt_of_ime_false {s : State} (ime : s.ime = false) : s.serviceInterrupt = s := by
  simp [State.serviceInterrupt, ime]

theorem State.serviceInterrupt_of_none {s : State} (none : firstInterrupt s.pending = none) :
    s.serviceInterrupt = s := by
  simp [State.serviceInterrupt, none]

theorem State.serviceInterrupt_of_some {s : State} {i : Interrupt} (ime : s.ime = true)
    (first : firstInterrupt s.pending = some i) :
    s.serviceInterrupt = { s.dispatch i with tcycles := s.tcycles + 20 } := by
  simp [State.serviceInterrupt, ime, first]

/-- Settles O10: a dispatch clears IME, so the check after it finds nothing to take. -/
theorem endOfStepCheck : Obligations.EndOfStepCheck := by
  unfold Obligations.EndOfStepCheck
  intro s
  constructor
  · rintro (ime | nothing)
    · exact State.serviceInterrupt_of_ime_false ime
    · exact State.serviceInterrupt_of_none (firstInterrupt_eq_none.mpr nothing)
  · intro ime n bound set lowest
    obtain ⟨i, first, mask⟩ := firstInterrupt_of_lowest bound set lowest
    have taken := State.serviceInterrupt_of_some ime first
    refine ⟨i, mask, taken, ?_⟩
    rw [taken]
    exact State.serviceInterrupt_of_ime_false rfl

/-! ### The EI delay (R431, 92_eei_decisions.md D6 and D8) -/

theorem State.countStep_fetchBytes (s : State) : s.countStep.fetchBytes = s.fetchBytes := by
  simp only [State.fetchBytes, State.countStep_memRead]
  rfl

theorem State.countStep_fetched (s : State) : s.countStep.fetched = s.fetched := by
  rw [State.fetched, State.countStep_fetchBytes]
  rfl

theorem cpuStep_of_running {s : State} (running : s.halted = false) : cpuStep s = runInstruction s.countStep := by
  simp [cpuStep, running]

/-- The T-cycles charged are those of the meaning, unless another table is given (00_scope.md R11). -/
theorem State.charge_eq (u t : State) :
    ∃ n : Nat, (u.params.cycleTable = none → n = t.tcycles) ∧ u.charge t = { t with tcycles := n } := by
  refine ⟨(u.charge t).tcycles, fun standard => ?_, State.charge_only_tcycles u t⟩
  rw [State.charge_standard standard]

/-- The instruction fetched runs, and the promotion and the check follow. -/
theorem cpuStep_of_exec {s t : State} (running : s.halted = false)
    (h : exec s.fetched s.countStep.afterFetch = .next t) :
    ∃ n : Nat, (s.params.cycleTable = none → n = t.tcycles) ∧
      cpuStep s = .next (State.endOfStep { t with tcycles := n } s.eiDelayPending) := by
  rw [← State.countStep_fetched] at h
  obtain ⟨n, standard, charged⟩ := State.charge_eq s.countStep t
  refine ⟨n, standard, ?_⟩
  rw [cpuStep_of_running running, runInstruction_of_exec h, charged]
  rfl

/-- Nothing follows an instruction that leaves IME clear and no EI to be promoted. -/
theorem State.endOfStep_still {t : State} {p : Bool} (noEi : (p && t.eiDelayPending) = false) (ime : t.ime = false) :
    t.endOfStep p = t := by
  rw [State.endOfStep, State.promoteEi, noEi]
  exact State.serviceInterrupt_of_ime_false ime

/-- An EI that is still pending takes effect before the check. -/
theorem State.endOfStep_promotes {t : State} (pending : t.eiDelayPending = true) :
    t.endOfStep true = State.serviceInterrupt { t with ime := true, eiDelayPending := false } := by
  rw [State.endOfStep, State.promoteEi, pending]
  rfl

/-- Only DI drops a pending EI; EI itself renews it. -/
theorem exec_keeps_eiDelay {i : Instr} {s t : State} (h : exec i s = .next t) (notDi : i ≠ .di)
    (pending : s.eiDelayPending = true) : t.eiDelayPending = true := by
  have left : t.eiDelayPending = (hiddenAfter i s).eiDelayPending := congrArg Hidden.eiDelayPending (exec_hidden h)
  rw [left]
  by_cases ei : i = .ei
  · rw [ei]; rfl
  · rw [hiddenAfter_eiDelayPending s ei notDi]; exact pending

/-- Settles O11: EI leaves the promotion to the next step, DI leaves none, every other meaning keeps it pending. -/
theorem eiDelay : Obligations.EiDelay := by
  unfold Obligations.EiDelay
  intro s running
  refine ⟨fun ei ime noEi => ?_, fun di => ?_, fun pending notDi => ?_⟩
  · have meaning : exec s.fetched s.countStep.afterFetch =
        .next { s.countStep.afterFetch with eiDelayPending := true, tcycles := 4 } := by rw [ei]; rfl
    obtain ⟨n, standard, steps⟩ := cpuStep_of_exec running meaning
    have still : (s.eiDelayPending && true) = false := by rw [noEi]; rfl
    exact ⟨n, standard, steps.trans (congrArg Host.Outcome.next (State.endOfStep_still still ime))⟩
  · have meaning : exec s.fetched s.countStep.afterFetch =
        .next { s.countStep.afterFetch with ime := false, eiDelayPending := false, tcycles := 4 } := by rw [di]; rfl
    obtain ⟨n, standard, steps⟩ := cpuStep_of_exec running meaning
    exact ⟨n, standard, steps.trans (congrArg Host.Outcome.next (State.endOfStep_still (Bool.and_false _) rfl))⟩
  · obtain ⟨t, meaning⟩ := exec_answers s.fetched s.countStep.afterFetch
    obtain ⟨n, standard, steps⟩ := cpuStep_of_exec running meaning
    have still : t.eiDelayPending = true := exec_keeps_eiDelay meaning notDi pending
    rw [pending] at steps
    exact ⟨t, n, meaning, standard, steps.trans (congrArg Host.Outcome.next (State.endOfStep_promotes still))⟩

/-! ### The step, by the instruction it fetches and by the halt (R400 to R402) -/

/-- Three bytes decode to the table's entry, and those of them are left that it does not take. -/
theorem decode_three (op n1 n2 : Byte) :
    decode [op, n1, n2] = .ok (decodeOp op n1 n2, [op, n1, n2].drop (instrLength op)) := by
  obtain ⟨wf, taken⟩ := encode_decodeOp op n1 n2
  have back := decode_encode wf ([op, n1, n2].drop (instrLength op))
  rwa [taken, List.take_append_drop] at back

theorem length_encode_decodeOp (op n1 n2 : Byte) : (encode (decodeOp op n1 n2)).length = instrLength op := by
  obtain ⟨-, taken⟩ := encode_decodeOp op n1 n2
  rw [taken, List.length_take]
  exact min_eq_left (instrLength_bounds op).2

/-- Settles O5: the table's entry of the three bytes at PC runs, and the devices advance by its T-cycles. -/
theorem stepRunsDecoded : Obligations.StepRunsDecoded := by
  unfold Obligations.StepRunsDecoded
  refine ⟨?_, fun _ _ _ _ _ _ _ => ⟨rfl, rfl, rfl, rfl, rfl, rfl⟩⟩
  rintro s u i rest rfl running decoded
  generalize hu : s.applyInputs.countStep = u at running decoded
  have fetched : u.fetched = i := by
    rw [decode_three] at decoded
    cases decoded
    rfl
  subst fetched
  refine ⟨(encode_decodeOp ..).1, rfl, ?_, fun t meaning => ?_⟩
  · rw [State.fetched, length_encode_decodeOp]
    rfl
  · have steps : cpuStep s.applyInputs = .next ((u.charge t).endOfStep u.eiDelayPending) := by
      have awake : s.applyInputs.halted = false := by rw [← hu] at running; exact running
      rw [cpuStep_of_running awake, hu, runInstruction_of_exec meaning]
    refine ⟨u.charge t, _, fun standard => State.charge_standard standard t, ?_, rfl, steps, ?_⟩
    · rintro table given _ rfl
      exact State.charge_table given t
    · rintro _ _ rfl rfl
      exact step_of_cpuStep steps

theorem cpuStep_of_halted {s : State} (halted : s.halted = true) : cpuStep s = haltedStep s.countStep := by
  simp [cpuStep, halted]

/-- Settles O8, by what is pending and IME. -/
theorem haltedSteps : Obligations.HaltedSteps := by
  unfold Obligations.HaltedSteps
  refine ⟨fun s halted => ?_, ?_⟩
  · rw [cpuStep_of_halted halted]
    refine ⟨fun nothing => ?_, fun i first ime => ?_, fun some ime => ?_⟩
    · have none : firstInterrupt s.countStep.pending = none := firstInterrupt_eq_none.mpr nothing
      rw [haltedStep, none]
      rfl
    · have taken : firstInterrupt s.countStep.pending = some i := first
      rw [haltedStep, taken]
      exact if_pos ime
    · obtain ⟨i, taken⟩ := Option.ne_none_iff_exists'.mp (mt firstInterrupt_eq_none.mp some)
      have first : firstInterrupt s.countStep.pending = Option.some i := taken
      rw [cpuStep_of_running rfl, haltedStep, first]
      exact if_neg (Bool.eq_false_iff.mp ime)
  · rintro s e - steps _ _ rfl rfl
    exact step_of_cpuStep steps

end Sys2Proof.Machine

/-! # SP plus a displacement, the rotates of A, DAA and the rest of 46_misc.md -/

namespace Sys2Proof.Machine

/-! ### SP + e (41_load16_stack.md R232, 43_alu16.md R282) -/

/-- Sign-extended or not, the displacement is the same modulo 65536. -/
theorem add_signExtend_toNat (sp : Word) (e : Byte) :
    ((sp + e.signExtend 16).toNat : Int) = (sp.toNat + e.toInt) % 65536 := by
  have signed : e.signExtend 16 = BitVec.ofInt 16 e.toInt := rfl
  have whole : ((sp + BitVec.ofInt 16 e.toInt).toNat : Int) = (sp.toNat + e.toInt % 65536) % 65536 := by
    rw [BitVec.toNat_add, BitVec.toNat_ofInt]
    omega
  rw [signed, whole, Int.add_emod_emod]

/-- Settles O17: both write the one sum and its flags. -/
theorem stackPointerPlusDisplacement : Obligations.StackPointerPlusDisplacement := by
  unfold Obligations.StackPointerPlusDisplacement
  intro e s
  refine ⟨(addSp s.sp e).value, (addSp s.sp e).flags, add_signExtend_toNat s.sp e, rfl, rfl, ?_, ?_, rfl, rfl⟩
  · exact decide_eq_true_iff
  · exact decide_eq_true_iff

/-! ### The rotates of A (44_rotate_a.md R290 to R293) -/

/-- Settles O25: the bytes are those of the CB rotates, the flags of the model are the rule's. -/
theorem rotateAccumulator : Obligations.RotateAccumulator := by
  unfold Obligations.RotateAccumulator
  intro s
  have next (op : RotOp) := rotateA_next op s
  simp only [RotOp.applyA] at next
  refine ⟨(next .rlc).trans ?_, (next .rrc).trans ?_, (next .rl).trans ?_, (next .rr).trans ?_⟩
  · rw [RotOp.value_rlc]; rfl
  · rw [RotOp.value_rrc]; rfl
  · rw [RotOp.value_rl]; rfl
  · rw [RotOp.value_rr]; rfl

/-! ### DAA (46_misc.md R330, 92_eei_decisions.md D15) -/

theorem exec_daa_next (s : State) :
    exec .daa s = .next { s with
      regs := { s.regs with a := (daa s.regs.a s.flags).value }, flags := (daa s.regs.a s.flags).flags,
      tcycles := 4 } :=
  rfl

theorem daaHigh_iff (a : Byte) (f : Flags) :
    daaHigh a f = true ↔ f.c = true ∨ (f.n = false ∧ 0x99 < a.toNat) := by simp [daaHigh]

theorem daaLow_iff (a : Byte) (f : Flags) :
    daaLow a f = true ↔ f.h = true ∨ (f.n = false ∧ 9 < a.toNat % 16) := by
  rw [daaLow, Bool.or_eq_true, Bool.and_eq_true, Bool.not_eq_true', decide_eq_true_iff]
  rfl

/-- The corrections one after the other, and the carry that tells whether the high one was made. -/
theorem daa_eq {a hi lo : Byte} {f : Flags} (high : hi = if daaHigh a f then 0x60#8 else 0#8)
    (low : lo = if daaLow a f then 0x06#8 else 0#8) :
    (daa a f).value = (if f.n then a - hi - lo else a + hi + lo) ∧
    (daa a f).flags =
      { z := decide ((daa a f).value = 0), n := f.n, h := false, c := decide (hi = 0x60#8) } := by
  subst high low
  constructor
  · simp only [daa, sub_sub, add_assoc]
    rfl
  · cases set : daaHigh a f <;> simp [daa, set]

/-- Settles O31: DAA makes the corrections that `daaHigh` and `daaLow` name; the others are what the model computes. -/
theorem daaCarryFlagStopAndIllegal : Obligations.DaaCarryFlagStopAndIllegal := by
  unfold Obligations.DaaCarryFlagStopAndIllegal
  refine ⟨fun s => ?_, fun pad s => ⟨rfl, rfl, rfl, fun i illegal => ?_⟩⟩
  · obtain ⟨value, flags⟩ := daa_eq (a := s.regs.a) (f := s.flags) rfl rfl
    have next := exec_daa_next s
    rw [flags] at next
    refine ⟨_, _, _, ?_, ?_, value, next⟩
    · simp only [daaHigh_iff]
    · simp only [daaLow_iff]
  · simp only [illegalInstrs, List.mem_cons, List.not_mem_nil, or_false] at illegal
    obtain rfl | rfl | rfl | rfl | rfl | rfl | rfl | rfl | rfl | rfl | rfl := illegal <;> rfl

/-- Two decimal digits in a byte. -/
def decimal (n : Nat) : Byte := BitVec.ofNat 8 (16 * (n / 10) + n % 10)

theorem decimal_toNat {n : Nat} (h : n < 100) : (decimal n).toNat = 16 * (n / 10) + n % 10 := by
  rw [decimal, BitVec.toNat_ofNat]
  omega

/-- The digits of the sum are the digits of its last two. -/
theorem decimal_mod (n : Nat) : BitVec.ofNat 8 (16 * (n % 100 / 10) + n % 10) = decimal (n % 100) := by
  rw [decimal, Nat.mod_mod_of_dvd n (by decide : 10 ∣ 100)]

/-- DAA on a sum of digit pairs, by the sums of their tens and of their units. -/
theorem daa_digitSums : ∀ (z : Bool) (tens units : Fin 19),
    let f : Flags := ⟨z, false, decide (0xF < units.val), decide (0xFF < 16 * tens.val + units.val)⟩
    let out := daa (BitVec.ofNat 8 (16 * tens.val + units.val)) f
    out.value = decimal ((10 * tens.val + units.val) % 100) ∧
      (out.flags.c = true ↔ 100 ≤ 10 * tens.val + units.val) := by
  decide

/-- DAA on a difference of digit pairs, by the differences of their tens and of their units, each taken 9 higher. -/
theorem daa_digitDifferences : ∀ (z : Bool) (tens units : Fin 19),
    let t : Int := 16 * ((tens.val : Int) - 9) + ((units.val : Int) - 9)
    let f : Flags := ⟨z, true, decide (units.val < 9), decide (t < 0)⟩
    let out := daa (BitVec.ofInt 8 t) f
    out.value = decimal ((10 * tens.val + units.val + 1) % 100) ∧
      (out.flags.c = true ↔ 10 * tens.val + units.val < 99) := by
  decide

section
variable {x y : Nat} (hx : x < 100) (hy : y < 100)
include hx hy

/-- A sum of two digit pairs is corrected to its own digits, with the carry of the hundred. -/
theorem daa_addWith_decimal {sum : Out8} (added : sum = addWith (decimal x) (decimal y) false) :
    (daa sum.value sum.flags).value = decimal ((x + y) % 100) ∧
      ((daa sum.value sum.flags).flags.c = true ↔ 100 ≤ x + y) := by
  have digits := daa_digitSums sum.flags.z ⟨x / 10 + y / 10, by omega⟩ ⟨x % 10 + y % 10, by omega⟩
  have total : 10 * (x / 10 + y / 10) + (x % 10 + y % 10) = x + y := by omega
  have bytes : (decimal x).toNat + (decimal y).toNat + 0 = 16 * (x / 10 + y / 10) + (x % 10 + y % 10) := by
    rw [decimal_toNat hx, decimal_toNat hy]; omega
  have nibbles : nibble (decimal x) + nibble (decimal y) + 0 = x % 10 + y % 10 := by
    rw [nibble, nibble, decimal_toNat hx, decimal_toNat hy]; omega
  simp only [total, ← bytes] at digits
  simp only [← nibbles] at digits
  rw [added] at digits ⊢
  exact digits

/-- A difference of two digit pairs is corrected to its own digits, with the borrow of the hundred. -/
theorem daa_subWith_decimal {difference : Out8} (subtracted : difference = subWith (decimal x) (decimal y) false) :
    (daa difference.value difference.flags).value = decimal ((x + 100 - y) % 100) ∧
      ((daa difference.value difference.flags).flags.c = true ↔ x < y) := by
  have digits := daa_digitDifferences difference.flags.z ⟨x / 10 + 9 - y / 10, by omega⟩ ⟨x % 10 + 9 - y % 10, by omega⟩
  have total : 10 * (x / 10 + 9 - y / 10) + (x % 10 + 9 - y % 10) + 1 = x + 100 - y := by omega
  have borrow : 10 * (x / 10 + 9 - y / 10) + (x % 10 + 9 - y % 10) < 99 ↔ x < y := by omega
  have t : 16 * (((x / 10 + 9 - y / 10 : Nat) : Int) - 9) + (((x % 10 + 9 - y % 10 : Nat) : Int) - 9) =
      ((decimal x).toNat : Int) - (decimal y).toNat - false.toNat := by
    rw [decimal_toNat hx, decimal_toNat hy, Bool.toNat_false]; omega
  have halfBorrow : x % 10 + 9 - y % 10 < 9 ↔ nibble (decimal x) < nibble (decimal y) + false.toNat := by
    rw [nibble, nibble, decimal_toNat hx, decimal_toNat hy, Bool.toNat_false]; omega
  have negative : ((decimal x).toNat : Int) - (decimal y).toNat - false.toNat < 0 ↔
      (decimal x).toNat < (decimal y).toNat + false.toNat := by
    rw [Bool.toNat_false]; omega
  simp only [total, borrow, t, halfBorrow, negative] at digits
  rw [subtracted, subWith_eq_ofInt rfl] at digits ⊢
  exact digits

end

/-- Settles O29: the digits and the carry of the corrected sum and of the corrected difference. -/
theorem daaDecimalSum : Obligations.DaaDecimalSum := by
  unfold Obligations.DaaDecimalSum
  intro x y s hx hy a
  have digits : s.regs.a = decimal x := a
  have add : exec (.add_a_n (decimal y)) s = _ := aluA_next .add (.imm (decimal y)) s
  have sub : exec (.sub_n (decimal y)) s = _ := aluA_next .sub (.imm (decimal y)) s
  obtain ⟨sum, carry⟩ := daa_addWith_decimal hx hy rfl
  obtain ⟨difference, borrow⟩ := daa_subWith_decimal hx hy rfl
  rw [← digits] at sum carry difference borrow
  refine ⟨⟨_, _, add, exec_daa_next _, ?_, carry⟩, ⟨_, _, sub, exec_daa_next _, ?_, borrow⟩⟩
  · rw [decimal_mod]; exact sum
  · rw [decimal_mod]; exact difference

/-! ### Words of the spec (R201, R209, R230, R231, R304, R306, R282, R337, R141, R346) -/

/-- Settles O4: the decoder computes each word's instruction. -/
theorem decodeSanityWords : Obligations.DecodeSanityWords := by
  unfold Obligations.DecodeSanityWords
  exact ⟨rfl, rfl, rfl, rfl, rfl, rfl, rfl, rfl, rfl, rfl, rfl⟩

end Sys2Proof.Machine

/-! # What an instruction stores to (20_memory.md R76, R90 to R96; 40_load8.md to 48_cb_bit.md) -/

namespace Sys2Proof.Machine

/-! ### Stores, one after the other -/

/-- `t` is reached from `s` by updates of the CPU and by stores to the addresses of `l`, in that order. -/
inductive StorePath (s : State) : List Word → State → Prop
  | refl : StorePath s [] s
  | cpu {l : List Word} {t u : State} (h : StorePath s l t) (e : t.SameBus u) : StorePath s l u
  | store {l : List Word} {t : State} (h : StorePath s l t) (a : Word) (v : Byte) :
      StorePath s (l ++ [a]) (t.memWrite a v)

theorem StorePath.one {s u : State} (e : s.SameBus u) : StorePath s [] u := .cpu .refl e

/-- The state decides what a store reaches only by where the external RAM is mapped (64_cartridge.md R597). -/
theorem State.storeReaches_congr {s t : State} (mapped : t.cart.ramOffset = s.cart.ramOffset) (b y : Word) :
    t.storeReaches b y = s.storeReaches b y := by
  unfold State.storeReaches
  rw [mapped]

theorem Cartridge.writeRam_ramOffset (c : Cartridge) (a : Nat) (v : Byte) :
    (c.writeRam a v).ramOffset = c.ramOffset := by
  unfold Cartridge.writeRam
  split <;> rfl

theorem State.memWrite_ramOffset (s : State) {a : Word} (noRom : regionOf a.toNat ≠ .rom) (v : Byte) :
    (s.memWrite a v).cart.ramOffset = s.cart.ramOffset := by
  simp only [State.memWrite]
  split
  case h_1 rom => exact absurd rom noRom
  case h_2 => split <;> rfl
  case h_3 => exact s.cart.writeRam_ramOffset ..
  case h_6 => rw [(s.writeOam_devicesOnly _ v).cart]
  case h_8 => rw [(s.ioWrite_devicesOnly _ v).cart]
  all_goals rfl

/-- No store reaches what is neither ROM nor external RAM by way of the bank registers. -/
theorem State.storeReaches_outside (s t : State) (b : Word) {y : Word} (outside : regionOf y.toNat ≠ .xram) :
    t.storeReaches b y = s.storeReaches b y := by
  unfold State.storeReaches
  split <;> simp [outside]

/-- A store that does not reach `y` does not change which later stores do. -/
theorem State.storeReaches_memWrite {s : State} {a y : Word} (h : s.storeReaches a y = false) (v : Byte) (b : Word) :
    (s.memWrite a v).storeReaches b y = s.storeReaches b y := by
  by_cases rom : regionOf a.toNat = .rom
  · refine State.storeReaches_outside _ _ b fun xram => ?_
    simp [State.storeReaches, rom, xram] at h
  · exact State.storeReaches_congr (s.memWrite_ramOffset rom v) b y

/-- What none of the stores reaches reads as before, and later stores reach it as before. -/
theorem StorePath.keeps {s t : State} {l : List Word} {y : Word} (path : StorePath s l t)
    (h : ∀ a ∈ l, s.storeReaches a y = false) :
    t.memRead y = s.memRead y ∧ ∀ b : Word, t.storeReaches b y = s.storeReaches b y := by
  induction path with
  | refl => exact ⟨rfl, fun _ => rfl⟩
  | cpu path same ih =>
    obtain ⟨read, reaches⟩ := ih h
    refine ⟨(same.memRead_eq y).trans read, fun b => (State.storeReaches_congr ?_ b y).trans (reaches b)⟩
    rw [same]
  | @store l t path a v ih =>
    obtain ⟨read, reaches⟩ := ih fun b mem => h b (List.mem_append_left _ mem)
    have unreached : t.storeReaches a y = false :=
      (reaches a).trans (h a (List.mem_append_right _ (List.mem_singleton_self a)))
    exact ⟨(storeReach t a y v unreached).trans read,
      fun b => (State.storeReaches_memWrite unreached v b).trans (reaches b)⟩

/-! ### The stores of each instruction -/

/-- Every next state of the answer is reached by stores to the addresses of `l`. -/
def Stores (s : State) (l : List Word) (answer : Answer) : Prop := ∀ t : State, answer = .next t → StorePath s l t

section
variable {s : State}

theorem finish_stores {n : Nat} {u : State} {l : List Word} (path : StorePath s l u) : Stores s l (finish n u) := by
  rintro t next
  cases next
  exact .cpu path rfl

theorem pushByte_stores {l : List Word} {t : State} (path : StorePath s l t) (v : Byte) :
    StorePath s (l ++ [t.sp - 1]) (t.pushByte v) :=
  .store (t := { t with sp := t.sp - 1 }) (.cpu path rfl) _ v

theorem push16_stores (v : Word) : StorePath s [s.sp - 1, s.sp - 1 - 1] (s.push16 v) := by
  have sp : (s.pushByte (hiByte v)).sp = s.sp - 1 := by rw [State.pushByte_eq]
  have path := pushByte_stores (pushByte_stores (StorePath.refl (s := s)) (hiByte v)) (loByte v)
  rw [sp] at path
  exact path

theorem call_stores (target : Word) : StorePath s [s.sp - 1, s.sp - 1 - 1] (s.call target) :=
  .cpu (push16_stores s.pc) rfl

theorem callIf_stores (cc : Cond) (nn : Word) :
    Stores s (if cc.holds s.flags then [s.sp - 1, s.sp - 1 - 1] else []) (callIf cc nn s) := by
  unfold callIf
  split
  · exact finish_stores (call_stores nn)
  · exact finish_stores .refl

theorem storeAMove_stores (m : Word) : Stores s [s.hl] (storeAMove m s) :=
  finish_stores (.cpu (.store .refl s.hl (s.getR .a)) rfl)

theorem modifyAtHl_stores (n : Nat) (o : Out8) : Stores s [s.hl] (modifyAtHl n o s) :=
  finish_stores (.cpu (.store .refl s.hl o.value) rfl)

theorem rotateAtHl_stores (op : RotOp) : Stores s [s.hl] (rotateTarget op .atHl s) :=
  finish_stores (.cpu (.store .refl s.hl (op.apply (s.memRead s.hl) s.flags).value) rfl)

theorem jumpIf_stores (cc : Cond) (nn : Word) : Stores s [] (jumpIf cc nn s) := by
  unfold jumpIf; split <;> exact finish_stores (.one rfl)

theorem jumpRelIf_stores (cc : Cond) (e : Byte) : Stores s [] (jumpRelIf cc e s) := by
  unfold jumpRelIf; split <;> exact finish_stores (.one rfl)

theorem returnIf_stores (cc : Cond) : Stores s [] (returnIf cc s) := by
  unfold returnIf; split <;> exact finish_stores (.one rfl)

theorem exec_halt_stores : Stores s [] (exec_halt s) := by
  unfold exec_halt
  split
  · exact finish_stores (.one rfl)
  · split <;> exact finish_stores (.one rfl)

/-- The storing instructions by their addresses; every other one updates the CPU alone. -/
theorem exec_stores_of_wellFormed {i : Instr} (wf : i.wellFormed = true) :
    Stores s (storeAddresses i s) (exec i s) := by
  cases i with
  | prefix_cb => cases wf
  | ld_atHl_b | ld_atHl_c | ld_atHl_d | ld_atHl_e | ld_atHl_h | ld_atHl_l | ld_atHl_a | ld_atHl_n | ld_atBc_a
  | ld_atDe_a | ld_atC_a | ld_atNn_a | ldh_atN_a | res_0_atHl | res_1_atHl | res_2_atHl | res_3_atHl | res_4_atHl
  | res_5_atHl | res_6_atHl | res_7_atHl | set_0_atHl | set_1_atHl | set_2_atHl | set_3_atHl | set_4_atHl
  | set_5_atHl | set_6_atHl | set_7_atHl => exact finish_stores (.store .refl _ _)
  | ld_atHlInc_a | ld_atHlDec_a => exact storeAMove_stores _
  | inc_atHl | dec_atHl => exact modifyAtHl_stores _ _
  | rlc_atHl | rrc_atHl | rl_atHl | rr_atHl | sla_atHl | sra_atHl | swap_atHl | srl_atHl => exact rotateAtHl_stores _
  | ld_atNn_sp => exact finish_stores (.store (.store .refl _ _) _ _)
  | push_bc | push_de | push_hl | push_af => exact finish_stores (push16_stores _)
  | call_nn | rst_00 | rst_08 | rst_10 | rst_18 | rst_20 | rst_28 | rst_30 | rst_38 =>
    exact finish_stores (call_stores _)
  | call_nz_nn | call_z_nn | call_nc_nn | call_c_nn => exact callIf_stores _ _
  | jp_nz_nn | jp_z_nn | jp_nc_nn | jp_c_nn => exact jumpIf_stores _ _
  | jr_nz_e | jr_z_e | jr_nc_e | jr_c_e => exact jumpRelIf_stores _ _
  | ret_nz | ret_z | ret_nc | ret_c => exact returnIf_stores _
  | halt => exact exec_halt_stores
  | _ => exact finish_stores (.one rfl)

end

/-- The entry of the CB map stores where the byte's fields say (47_cb_shift.md R360). -/
theorem storeAddresses_decodeCb (cbop : Byte) (s : State) :
    storeAddresses (decodeCb cbop) s = storeAddresses (.prefix_cb cbop) s := by
  obtain ⟨k, hk, rfl⟩ := byte_eq_ofNat cbop
  interval_cases k <;> rfl

theorem exec_stores (i : Instr) (s : State) : Stores s (storeAddresses i s) (exec i s) := by
  by_cases wf : i.wellFormed = true
  · exact exec_stores_of_wellFormed wf
  · cases i with
    | prefix_cb cbop =>
      have entry := exec_stores_of_wellFormed (s := s) (encode_decodeCb cbop).1
      rwa [storeAddresses_decodeCb, exec_decodeCb] at entry
    | _ => exact absurd rfl wf

/-- Settles O42: an instruction's stores are to its addresses, and what none of them reaches reads as before. -/
theorem instructionFrame : Obligations.InstructionFrame := by
  unfold Obligations.InstructionFrame
  intro i s t y next h
  exact ((exec_stores i s t next).keeps h).1

end Sys2Proof.Machine

/-! # The bank controllers and the cartridge's windows (64_cartridge.md R592 to R599) -/

namespace Sys2Proof.Machine

/-! ### The registers a store to the ROM window sets (R592, R595 to R599) -/

theorem enablesRam_eq (v : Byte) : enablesRam v = decide (v.toNat % 16 = 10) := by
  have low : v.setWidth 4 = 0xA#4 ↔ v.toNat % 16 = 10 := by bv_omega
  simp only [enablesRam, low]

/-- A bank register takes as many low bits as it holds, a 0 among them as 1. -/
theorem remapZero_setWidth (w : Nat) (v : Byte) :
    remapZero (v.setWidth w) = if v.toNat % 2 ^ w = 0 then 1 else BitVec.ofNat w v.toNat := by
  have zero : v.setWidth w = 0 ↔ v.toNat % 2 ^ w = 0 := by
    rw [← BitVec.toNat_inj, BitVec.toNat_setWidth]
    rfl
  simp only [remapZero, zero, BitVec.ofNat_toNat]

theorem byte_bit_zero (v : Byte) : v.getLsbD 0 = decide (v.toNat % 2 = 1) := by
  revert v; decide

theorem word_bit_eight (a : Word) : a.getLsbD 8 = true ↔ ¬ a.toNat / 256 % 2 = 0 := by
  rw [BitVec.getLsbD, Nat.testBit_eq_decide_div_mod_eq, decide_eq_true_iff]
  omega

/-- Settles O55: each controller by the part of the window the address is in. -/
theorem bankRegisters : Obligations.BankRegisters := by
  unfold Obligations.BankRegisters
  intro s a v below
  refine ⟨s.cart.mbc.writeControl a.toNat v, ?_, ?_⟩
  · simp only [State.memWrite, regionOf_rom below, Cartridge.writeControl]
  have quarter₀ : a.toNat < 0x2000 ↔ a.toNat / 0x2000 = 0 := by omega
  have quarter₁ : a.toNat < 0x4000 ↔ a.toNat / 0x2000 ≤ 1 := by omega
  have quarter₂ : a.toNat < 0x6000 ↔ a.toNat / 0x2000 ≤ 2 := by omega
  have last : a.toNat / 0x2000 < 4 := by omega
  cases s.cart.mbc with
  | none => rfl
  | mbc1 en lo hi mode =>
    simp only [Mbc.writeControl, quarter₀, quarter₁, quarter₂, enablesRam_eq, remapZero_setWidth, byte_bit_zero]
    generalize a.toNat / 0x2000 = q at last
    interval_cases q <;> simp
  | mbc2 en bank =>
    simp only [Mbc.writeControl, enablesRam_eq, remapZero_setWidth, word_bit_eight, ite_not]
    rfl
  | mbc3 en bank ram =>
    simp only [Mbc.writeControl, quarter₀, quarter₁, quarter₂, enablesRam_eq, remapZero_setWidth]
    generalize a.toNat / 0x2000 = q at last
    interval_cases q <;> rfl
  | mbc5 en bank ram =>
    have eighth₀ : a.toNat < 0x2000 ↔ a.toNat / 0x1000 ≤ 1 := by omega
    have eighth₁ : a.toNat < 0x3000 ↔ a.toNat / 0x1000 ≤ 2 := by omega
    have eighth₂ : a.toNat < 0x4000 ↔ a.toNat / 0x1000 ≤ 3 := by omega
    have eighth₃ : a.toNat < 0x6000 ↔ a.toNat / 0x1000 ≤ 5 := by omega
    have lastEighth : a.toNat / 0x1000 < 8 := by omega
    simp only [Mbc.writeControl, eighth₀, eighth₁, eighth₂, eighth₃, enablesRam_eq,
      BitVec.setWidth_eq_extractLsb' (show 1 ≤ 8 by decide), BitVec.setWidth_eq_extractLsb' (show 8 ≤ 9 by decide)]
    generalize a.toNat / 0x1000 = q at lastEighth
    interval_cases q <;> simp


/-! ### The two windows (R593 to R599; 20_memory.md R81, R83, R93) -/

theorem Mbc.nibbleRam_iff (m : Mbc) : m.nibbleRam = true ↔ m.kind = 2 := by
  cases m <;> simp [Mbc.nibbleRam, Mbc.kind]

/-- A 4-bit cell under an upper nibble of 1s. -/
theorem nibble_under_ones (b : Byte) : 0xF#4 ++ b.setWidth 4 = 0xF0#8 ||| b := by
  revert b; decide

section
variable {c : Cartridge} {a o : Nat}

/-- Nothing is reached where the RAM is disabled, selects nothing or is too small (R594). -/
theorem Cartridge.ramOffset_eq_none (outside : ∀ o : Nat, c.mbc.mapRam a = some o → c.ramSize ≤ o) :
    c.ramOffset a = none := by
  unfold Cartridge.ramOffset
  split
  · rfl
  · next o mapped => exact if_neg (Nat.not_lt.mpr (outside o mapped))

theorem Cartridge.ramOffset_eq_some (mapped : c.mbc.mapRam a = some o) (within : o < c.ramSize) :
    c.ramOffset a = some o := by
  simp only [Cartridge.ramOffset, mapped, if_pos within]

theorem Cartridge.readRam_of_none (nothing : c.ramOffset a = none) : c.readRam a = 0xFF := by
  simp only [Cartridge.readRam, nothing]

theorem Cartridge.writeRam_of_none (nothing : c.ramOffset a = none) (v : Byte) : c.writeRam a v = c := by
  simp only [Cartridge.writeRam, nothing]

theorem Cartridge.readRam_of_some (reached : c.ramOffset a = some o) :
    c.readRam a = if c.mbc.kind = 2 then 0xF0#8 ||| c.xram.read o else c.xram.read o := by
  simp only [Cartridge.readRam, reached, Mbc.nibbleRam_iff, nibble_under_ones]

theorem Cartridge.writeRam_of_some (reached : c.ramOffset a = some o) (v : Byte) :
    c.writeRam a v = { c with xram := c.xram.write o (if c.mbc.kind = 2 then v &&& 0x0F else v) } := by
  simp only [Cartridge.writeRam, Cartridge.cell, reached, Mbc.nibbleRam_iff]

/-- A byte written is read back (R594, R597). -/
theorem Cartridge.readRam_writeRam (reached : c.ramOffset a = some o) (v : Byte) :
    (c.writeRam a v).readRam a = if c.mbc.kind = 2 then 0xF0#8 ||| (v &&& 0x0F) else v := by
  have still : (c.writeRam a v).ramOffset a = some o := by rw [c.writeRam_ramOffset, reached]
  rw [Cartridge.readRam_of_some still, Cartridge.writeRam_of_some reached, Memory.read_write_same]
  split <;> rfl

end

section
variable {s : State} {a : Word}

theorem State.memRead_rom (below : a.toNat < 0x8000) :
    s.memRead a = if s.cart.mbc.mapRom a.toNat < s.cart.romSize then s.cart.rom.read (s.cart.mbc.mapRom a.toNat)
      else 0xFF := by
  simp only [State.memRead, regionOf_rom below, Cartridge.readRom]

theorem State.memRead_xram (low : 0xA000 ≤ a.toNat) (high : a.toNat ≤ 0xBFFF) :
    s.memRead a = s.cart.readRam a.toNat := by
  simp only [State.memRead, regionOf_xram low (Nat.lt_succ_of_le high)]

theorem State.memWrite_xram (low : 0xA000 ≤ a.toNat) (high : a.toNat ≤ 0xBFFF) (v : Byte) :
    s.memWrite a v = { s with cart := s.cart.writeRam a.toNat v } := by
  simp only [State.memWrite, regionOf_xram low (Nat.lt_succ_of_le high)]

end

/-- Settles O56: the model's offsets are the rules', and the windows show what is at them. -/
theorem cartridgeWindows : Obligations.CartridgeWindows := by
  unfold Obligations.CartridgeWindows
  intro s a v
  refine ⟨fun bank off selected offset below => ?_, fun off selected low high => ?_⟩
  · have same : s.cart.mbc.romBank = bank := by
      rw [selected]
      cases s.cart.mbc <;> simp [Mbc.romBank, Nat.mul_comm]
    have mapped : s.cart.mbc.mapRom a.toNat = off := by rw [Mbc.mapRom, same, offset]
    rw [State.memRead_rom below, mapped]
  · have mapped : s.cart.mbc.mapRam a.toNat = off := by
      rw [selected]
      cases s.cart.mbc <;> simp [Mbc.mapRam]
    rw [← mapped, State.memRead_xram low high, State.memWrite_xram low high]
    refine ⟨fun outside => ?_, fun o reached within => ?_⟩
    · have nothing := Cartridge.ramOffset_eq_none outside
      rw [Cartridge.readRam_of_none nothing, Cartridge.writeRam_of_none nothing]
      exact ⟨rfl, rfl⟩
    · have offset := Cartridge.ramOffset_eq_some reached within
      refine ⟨Cartridge.readRam_of_some offset, ?_, ?_⟩
      · rw [Cartridge.writeRam_of_some offset]
      · rw [State.memRead_xram low high]
        exact Cartridge.readRam_writeRam offset v

end Sys2Proof.Machine

/-! # The renderer (62_ppu.md R495 to R508) -/

namespace Sys2Proof.Machine

/-! ### The sprites of a line (R502, R503, 92_eei_decisions.md D39) -/

section
variable (key : Nat → Nat)

/-- Index `i` is drawn before `j`: its key is smaller, or the keys agree and it stands earlier (R503). -/
def Precedes (i j : Nat) : Prop := key i < key j ∨ (key i = key j ∧ i < j)

/-- A later index goes behind every earlier one of the same key. -/
theorem pairwise_orderedInsert {i : Nat} {l : List Nat} (sorted : l.Pairwise (Precedes key)) (later : ∀ j ∈ l, j < i) :
    (l.orderedInsert (fun i j => key i < key j) i).Pairwise (Precedes key) := by
  induction l with
  | nil => exact List.pairwise_singleton ..
  | cons j l ih =>
    obtain ⟨first, rest⟩ := List.pairwise_cons.mp sorted
    obtain ⟨before, later⟩ := List.forall_mem_cons.mp later
    rw [List.orderedInsert]
    split
    case isTrue smaller =>
      refine List.pairwise_cons.mpr ⟨List.forall_mem_cons.mpr ⟨.inl smaller, fun k mem => .inl ?_⟩, sorted⟩
      obtain less | ⟨equal, -⟩ := first k mem <;> omega
    case isFalse notSmaller =>
      refine List.pairwise_cons.mpr ⟨fun k mem => ?_, ih rest later⟩
      obtain rfl | mem := (List.mem_orderedInsert _).mp mem
      · unfold Precedes; omega
      · exact first k mem

/-- The indices of `l` inserted into `acc` one after the other, each before the first of a larger key. -/
def insertAll (l acc : List Nat) : List Nat :=
  l.foldl (fun acc i => acc.orderedInsert (fun i j => key i < key j) i) acc

/-- Inserting an ascending list sorts it by key and then by index. -/
theorem insertAll_sorts {l acc : List Nat} (ascending : l.Pairwise (· < ·)) (later : ∀ i ∈ l, ∀ j ∈ acc, j < i)
    (sorted : acc.Pairwise (Precedes key)) :
    (insertAll key l acc).Perm (acc ++ l) ∧ (insertAll key l acc).Pairwise (Precedes key) := by
  induction l generalizing acc with
  | nil => exact ⟨.of_eq (List.append_nil acc).symm, sorted⟩
  | cons i l ih =>
    obtain ⟨first, ascending⟩ := List.pairwise_cons.mp ascending
    obtain ⟨laterFirst, later⟩ := List.forall_mem_cons.mp later
    have inserted := List.perm_orderedInsert (fun i j => key i < key j) i acc
    have laterInserted : ∀ j ∈ l, ∀ k ∈ acc.orderedInsert (fun i j => key i < key j) i, k < j := by
      intro j mem k memInserted
      obtain rfl | memAcc := (List.mem_orderedInsert _).mp memInserted
      · exact first j mem
      · exact later j mem k memAcc
    obtain ⟨perm, pairwise⟩ := ih ascending laterInserted (pairwise_orderedInsert key sorted laterFirst)
    exact ⟨perm.trans ((inserted.append_right l).trans List.perm_middle.symm), pairwise⟩

end

/-- The X of an OAM entry (R505). -/
def spriteX (m : Memory) (i : Nat) : Nat := (spriteAt m i).x

/-- Sprites are inserted as their OAM indices would be. -/
theorem insertByX_map (m : Memory) (i : Nat) (l : List Nat) :
    insertByX (spriteAt m i) (l.map (spriteAt m)) =
      (l.orderedInsert (fun i j => spriteX m i < spriteX m j) i).map (spriteAt m) := by
  induction l with
  | nil => rfl
  | cons j l ih =>
    rw [List.map_cons, insertByX, List.orderedInsert, ih, apply_ite (List.map (spriteAt m))]
    rfl

theorem foldl_insertByX_map (m : Memory) (l acc : List Nat) :
    (l.map (spriteAt m)).foldl (fun sorted s => insertByX s sorted) (acc.map (spriteAt m)) =
      (insertAll (spriteX m) l acc).map (spriteAt m) := by
  induction l generalizing acc with
  | nil => rfl
  | cons i l ih =>
    rw [List.map_cons, List.foldl_cons, insertByX_map, ih]
    rfl

/-- The OAM indices whose rows cover the line (R502). -/
def Ppu.covering (m : Memory) (p : Ppu) : List Nat :=
  (List.range 40).filter (fun i => (spriteAt m i).covers p.ly.toNat p.spriteHeight)

/-- The list of a line is its first ten covering entries, inserted one after the other. -/
theorem Ppu.lineSprites_eq (m : Memory) {p : Ppu} (on : p.lcdc.getLsbD 1 = true) :
    p.lineSprites m = (insertAll (spriteX m) ((p.covering m).take 10) []).map (spriteAt m) := by
  rw [Ppu.lineSprites, if_pos on, List.filter_map, ← List.map_take]
  exact foldl_insertByX_map m _ []

theorem Ppu.lineSprites_off (m : Memory) {p : Ppu} (off : p.lcdc.getLsbD 1 = false) : p.lineSprites m = [] := by
  rw [Ppu.lineSprites, off]
  rfl

theorem Sprite.covers_eq (s : Sprite) (ly h : Nat) :
    s.covers ly h = decide (s.y ≠ 0 ∧ s.y ≤ ly + 16 ∧ ly + 16 < s.y + h) := by
  simp only [Sprite.covers, Bool.decide_and, Bool.and_assoc]

/-- Settles O52: the indices are inserted in ascending order, so equal keys keep it. -/
theorem lineSprites : Obligations.LineSprites := by
  unfold Obligations.LineSprites
  rintro m p height covering height_eq covering_eq
  have covers : covering = p.covering m := by
    rw [covering_eq, height_eq, Ppu.covering]
    simp only [Sprite.covers_eq]
    rfl
  have ascending : ((p.covering m).take 10).Pairwise (· < ·) :=
    (List.pairwise_lt_range.sublist List.filter_sublist).sublist (List.take_sublist ..)
  obtain ⟨perm, sorted⟩ := insertAll_sorts (spriteX m) ascending (by simp) List.Pairwise.nil
  refine ⟨?_, Ppu.lineSprites_off m, fun on => ⟨_, covers ▸ perm, sorted, Ppu.lineSprites_eq m on⟩⟩
  cases on : p.lcdc.getLsbD 1 with
  | false => rw [Ppu.lineSprites_off m on]; exact Nat.zero_le 10
  | true =>
    rw [Ppu.lineSprites_eq m on, List.length_map, perm.length_eq]
    exact List.length_take_le ..

/-! ### The pixels of a line (R495 to R501, R504, R506) -/

theorem palette_eq (p : Byte) (id : Shade) : palette p id = (p >>> (2 * id.toNat)).extractLsb' 0 2 := by
  revert p id; decide

/-- The tile's address, with the numbers from 128 on taken as negative (R497). -/
theorem tileAddress_eq (lcdc4 : Bool) (k : Byte) :
    tileAddress lcdc4 k = if lcdc4 then 0x8000 + 16 * k.toNat
      else if k.toNat < 128 then 0x9000 + 16 * k.toNat else 0x9000 + 16 * k.toNat - 0x1000 := by
  unfold tileAddress
  split
  · rfl
  · rw [BitVec.toInt_eq_toNat_cond]
    split <;> split <;> omega

theorem Ppu.windowVisible_eq (p : Ppu) :
    p.windowVisible = decide (p.lcdc.getLsbD 5 = true ∧ p.wy.toNat ≤ p.ly.toNat ∧ p.wx.toNat ≤ 166) := by
  simp only [Ppu.windowVisible, Bool.decide_and, Bool.decide_eq_true, Bool.and_assoc]

/-- Window or background, as one map pixel by the layer's map, row and column, or nothing (R499, R501). -/
theorem Ppu.layerPixel_eq (m : Memory) (p : Ppu) (x : Nat) {win : Bool}
    (drawn : win = (p.windowVisible && decide (p.wx.toNat ≤ x + 7))) :
    p.layerPixel m x =
      if win = true ∨ p.lcdc.getLsbD 0 = true then
        mapPixel m (p.lcdc.getLsbD 4) (tileMapBase (if win then p.lcdc.getLsbD 6 else p.lcdc.getLsbD 3))
          (if win then x + 7 - p.wx.toNat else (x + p.scxShadow.toNat) % 256)
          (if win then p.windowLine.toNat else (p.ly.toNat + p.scyShadow.toNat) % 256)
      else 0 := by
  rw [Ppu.layerPixel, ← drawn]
  cases win with
  | true => rfl
  | false => simp only [Ppu.bgPixel, Bool.false_eq_true, false_or, if_false]

/-- The colour id a sprite has at column x, 0 where it does not cover it (R504). -/
def Sprite.idAt (m : Memory) (s : Sprite) (ly h x : Nat) : Shade :=
  if s.x ≤ x + 8 ∧ x < s.x then s.pixel m ly h x else 0

section
variable (m : Memory) (p : Ppu) (x : Nat) (bg : Shade)

/-- A transparent pixel passes the walk on, another ends it (R504, 92_eei_decisions.md D38). -/
theorem Ppu.spriteShade_cons (s : Sprite) (rest : List Sprite) :
    p.spriteShade m x bg (s :: rest) =
      if s.idAt m p.ly.toNat p.spriteHeight x = 0 then p.spriteShade m x bg rest
      else if s.attr.getLsbD 7 = true ∧ bg ≠ 0 then none
      else some (palette (if s.attr.getLsbD 4 then p.obp1 else p.obp0) (s.idAt m p.ly.toNat p.spriteHeight x)) := by
  by_cases covered : s.x ≤ x + 8 ∧ x < s.x
  · simp only [Ppu.spriteShade, Sprite.idAt, covered, and_self, decide_true, Bool.and_self, if_true, Bool.and_eq_true,
      decide_eq_true_eq]
  · have outside : (decide (s.x ≤ x + 8) && decide (x < s.x)) = false := by
      rw [← Bool.decide_and, decide_eq_false covered]
    simp only [Ppu.spriteShade, Sprite.idAt, covered, outside, if_false, Bool.false_eq_true, if_true]

theorem Ppu.spriteShade_transparent {before : List Sprite} (rest : List Sprite)
    (clear : ∀ r ∈ before, r.idAt m p.ly.toNat p.spriteHeight x = 0) :
    p.spriteShade m x bg (before ++ rest) = p.spriteShade m x bg rest := by
  induction before with
  | nil => rfl
  | cons r before ih =>
    obtain ⟨first, others⟩ := List.forall_mem_cons.mp clear
    rw [List.cons_append, Ppu.spriteShade_cons, if_pos first, ih others]

/-- With no solid sprite the column shows the layer's shade. -/
theorem Ppu.finalShade_transparent {sprites : List Sprite}
    (clear : ∀ r ∈ sprites, r.idAt m p.ly.toNat p.spriteHeight x = 0) :
    p.finalShade m sprites x bg = palette p.bgp bg := by
  have none := p.spriteShade_transparent m x bg [] clear
  rw [List.append_nil] at none
  rw [Ppu.finalShade, none]
  rfl

/-- The first solid sprite decides the column's shade. -/
theorem Ppu.finalShade_opaque {before after : List Sprite} {s : Sprite}
    (clear : ∀ r ∈ before, r.idAt m p.ly.toNat p.spriteHeight x = 0)
    (solid : s.idAt m p.ly.toNat p.spriteHeight x ≠ 0) :
    p.finalShade m (before ++ s :: after) x bg =
      if s.attr.getLsbD 7 = true ∧ bg ≠ 0 then palette p.bgp bg
      else palette (if s.attr.getLsbD 4 then p.obp1 else p.obp0) (s.idAt m p.ly.toNat p.spriteHeight x) := by
  rw [Ppu.finalShade, p.spriteShade_transparent m x bg _ clear, Ppu.spriteShade_cons, if_neg solid,
    apply_ite (Option.getD · _)]
  rfl

/-- Column by column, a line's shades are those of its background ids. -/
theorem Ppu.shadeLine_getD (sprites : List Sprite) {i : Nat} {ids : List Shade} (within : i < ids.length) :
    (p.shadeLine m sprites x ids).getD i 0 = p.finalShade m sprites (x + i) (ids.getD i 0) := by
  induction ids generalizing x i with
  | nil => exact absurd within (Nat.not_lt_zero i)
  | cons id ids ih =>
    cases i with
    | zero => rfl
    | succ i =>
      have column : x + 1 + i = x + (i + 1) := by omega
      rw [Ppu.shadeLine, List.getD_cons_succ, List.getD_cons_succ, ih _ (Nat.lt_of_succ_lt_succ within), column]

end


/-! ### The line's render (R495, R499, R501, R506) -/

section
variable (m : Memory) (p : Ppu) {x : Nat} (column : x < 160)

include column in
theorem Ppu.renderLine_bgId : (p.renderLine m).bgId.getD x 0 = p.layerPixel m x := by
  simp [Ppu.renderLine, List.getD, column]

include column in
theorem Ppu.renderLine_shade (line : p.ly.toNat < p.framebuffer.length) :
    ((p.renderLine m).framebuffer.getD p.ly.toNat []).getD x 0 =
      p.finalShade m (p.lineSprites m) x (p.layerPixel m x) := by
  have ids := p.renderLine_bgId m column
  have row : (p.renderLine m).framebuffer.getD p.ly.toNat [] =
      p.shadeLine m (p.lineSprites m) 0 (p.renderLine m).bgId := by
    simp [Ppu.renderLine, List.getD, line]
  have wide : x < (p.renderLine m).bgId.length := by simp [Ppu.renderLine, column]
  rw [row, p.shadeLine_getD m 0 _ wide, ids, Nat.zero_add]

theorem Ppu.renderLine_otherLine {line : Nat} (other : line ≠ p.ly.toNat) :
    (p.renderLine m).framebuffer.getD line [] = p.framebuffer.getD line [] := by
  simp [Ppu.renderLine, List.getD, List.getElem?_set_ne other.symm]

end

/-- The PPU as it renders at mode-3 entry (R495). -/
def Ppu.shadowed (p : Ppu) : Ppu :=
  { p with mode := .transfer, scxShadow := p.scx, scyShadow := p.scy, frozenPairBase := 4 * (79 / 2) }

/-- Settles O51: mode-3 entry renders the line with the scroll registers as they stand. -/
theorem renderedLine : Obligations.RenderedLine := by
  unfold Obligations.RenderedLine
  rintro m p x q column line lines rfl visible win u v base tile t h bg pix visible_eq win_eq u_eq v_eq base_eq tile_eq
    t_eq bg_eq h_eq pix_eq
  have shown : p.shadowed.windowVisible = visible := (Ppu.windowVisible_eq _).trans visible_eq.symm
  have drawn : win = (p.shadowed.windowVisible && decide (p.wx.toNat ≤ x + 7)) := by rw [shown, win_eq]
  have pixel : mapPixel m (p.lcdc.getLsbD 4) base u v =
      BitVec.ofBool ((m.read (t + 2 * (v % 8) + 1)).getLsbD (7 - u % 8)) ++
        BitVec.ofBool ((m.read (t + 2 * (v % 8))).getLsbD (7 - u % 8)) := by
    rw [mapPixel, tileAddress_eq, ← tile_eq, ← t_eq]
    rfl
  have layer : p.shadowed.layerPixel m x = bg := by
    rw [Ppu.layerPixel_eq m _ x drawn, bg_eq, ← pixel, base_eq, u_eq, v_eq]
    rfl
  have ids (s : Sprite) : s.idAt m p.shadowed.ly.toNat p.shadowed.spriteHeight x = pix s := by
    have height : p.shadowed.spriteHeight = h := h_eq.symm
    have paired : 2 * (s.tile / 2) = s.tile - s.tile % 2 := by omega
    rw [pix_eq s _ _ _ rfl rfl rfl, Sprite.idAt, Sprite.pixel, height, paired]
    rfl
  have shade := p.shadowed.renderLine_shade m column (lines ▸ line)
  rw [layer] at shade
  refine ⟨(p.shadowed.renderLine_bgId m column).trans layer, congrArg (p.windowDrawn || ·) shown, fun clear => ?_,
    fun before after s split clear solid => ?_, fun other => p.shadowed.renderLine_otherLine m⟩
  · rw [← palette_eq]
    exact shade.trans (p.shadowed.finalShade_transparent m x bg fun s mem => (ids s).trans (clear s mem))
  · have walk := p.shadowed.finalShade_opaque m x bg (after := after) (s := s)
      (fun r mem => (ids r).trans (clear r mem)) (fun zero => solid ((ids s).symm.trans zero))
    have list : p.shadowed.lineSprites m = before ++ s :: after := split
    rw [list, walk, ids] at shade
    simp only [palette_eq] at shade
    rw [apply_ite (BitVec.extractLsb' 0 2)]
    exact shade

end Sys2Proof.Machine

/-! # Sound registers and wave RAM on the bus (63_apu.md R540 to R545, R553, R560; 20_memory.md R86, R96) -/

namespace Sys2Proof.Machine

/-! ### Fields of a byte, as the spec's masks write them (92_eei_decisions.md D42) -/

theorem nr10_byte (nr10 : BitVec 7) : 1#1 ++ nr10 = 0x80#8 ||| nr10.setWidth 8 := by revert nr10; decide

theorem duty_byte (duty : BitVec 2) : duty ++ 0x3F#6 = duty.setWidth 8 <<< 6 ||| 0x3F#8 := by revert duty; decide

theorem volume_byte (code : BitVec 2) : 1#1 ++ code ++ 0x1F#5 = code.setWidth 8 <<< 5 ||| 0x9F#8 := by
  revert code; decide

theorem readControl_eq (en : Bool) : readControl en = if en then 0xFF#8 else 0xBF#8 := by cases en <;> rfl

theorem dac_byte (on : Bool) : BitVec.ofBool on ++ 0x7F#7 = if on then 0xFF#8 else 0x7F#8 := by cases on <;> rfl

theorem Apu.readNr52_eq (a : Apu) :
    a.readNr52 = 0x70#8 ||| (if a.power then 0x80#8 else 0#8) ||| (if a.ch4.enabled then 8#8 else 0#8) |||
      (if a.ch3.enabled then 4#8 else 0#8) ||| (if a.ch2.enabled then 2#8 else 0#8) |||
      (if a.ch1.enabled then 1#8 else 0#8) := by
  unfold Apu.readNr52
  generalize a.power = power, a.ch4.enabled = ch4, a.ch3.enabled = ch3, a.ch2.enabled = ch2, a.ch1.enabled = ch1
  revert power ch4 ch3 ch2 ch1
  decide

/-- A write of the low eight bits of a frequency (R560). -/
theorem frequencyLow_eq (f : BitVec 11) (v : Byte) : f.extractLsb' 8 3 ++ v = f &&& 0x700#11 ||| v.setWidth 11 := by
  apply BitVec.eq_of_getLsbD_eq
  intro k hk
  simp only [BitVec.getLsbD_append, BitVec.getLsbD_extractLsb', BitVec.getLsbD_or, BitVec.getLsbD_and,
    BitVec.getLsbD_setWidth]
  interval_cases k <;> simp

theorem dacOn_nibble {p : Params} (check : p.dacCheck = .nibble) (v : Byte) :
    dacOn p v = decide (v.toNat / 16 ≠ 0) := by
  have field : v.extractLsb' 4 4 = 0 ↔ v.toNat / 16 = 0 := by revert v; decide
  simp only [dacOn, check, ne_eq, field]

theorem dacOn_fiveBits {p : Params} (check : p.dacCheck = .fiveBits) (v : Byte) :
    dacOn p v = decide (v.toNat / 8 ≠ 0) := by
  have field : v.extractLsb' 3 5 = 0 ↔ v.toNat / 8 = 0 := by revert v; decide
  simp only [dacOn, check, ne_eq, field]

/-- The bits of NRx2 whose test is the DAC's, by the variant (R541, 92_eei_decisions.md D43). -/
def dacField (p : Params) (v : Byte) : Nat :=
  match p.dacCheck with
  | .nibble => v.toNat / 16
  | .fiveBits => v.toNat / 8

theorem dacOn_eq (p : Params) (v : Byte) : dacOn p v = decide (dacField p v ≠ 0) := by
  unfold dacField
  cases check : p.dacCheck with
  | nibble => exact dacOn_nibble check v
  | fiveBits => exact dacOn_fiveBits check v

/-! ### Reads and writes by the power (R542, R543) -/

section
variable (a : Apu) (p : Params) (reg : Nat) (v : Byte)

theorem Apu.write_on (on : a.power = true) : a.write p reg v = a.writeOn p reg v := if_pos on

theorem Apu.write_off (off : a.power = false) : a.write p reg v = a.writeOff reg v := if_neg (Bool.eq_false_iff.mp off)

theorem Apu.writeNr52_off (on : a.power = true) (bit : v.getLsbD 7 = false) : a.writeNr52 v = a.powerOff := by
  rw [Apu.writeNr52, on, bit]; rfl

theorem Apu.writeNr52_on (off : a.power = false) (bit : v.getLsbD 7 = true) : a.writeNr52 v = a.powerOn := by
  rw [Apu.writeNr52, off, bit]; rfl

theorem Apu.writeNr52_same (bit : v.getLsbD 7 = a.power) : a.writeNr52 v = a := by
  rw [Apu.writeNr52, bit]
  cases a.power <;> rfl

theorem Apu.readNr52_powerOff : a.powerOff.readNr52 = 0x70#8 := by
  simp [Apu.readNr52_eq, Apu.powerOff]

/-- With the power off only five registers answer a write (R543). -/
theorem Apu.writeOff_other (nr11 : reg ≠ 0x11) (nr21 : reg ≠ 0x16) (nr31 : reg ≠ 0x1B) (nr41 : reg ≠ 0x20)
    (nr52 : reg ≠ 0x26) : a.writeOff reg v = a := by
  unfold Apu.writeOff
  split
  · exact absurd rfl nr11
  · exact absurd rfl nr21
  · exact absurd rfl nr31
  · exact absurd rfl nr41
  · exact absurd rfl nr52
  · rfl

end

theorem State.ioRead_sound (s : State) {n : Nat} (low : 0x10 ≤ n) (high : n < 0x30) : s.ioRead n = s.apu.read n := by
  interval_cases n <;> rfl

theorem State.ioWrite_sound (s : State) {n : Nat} (low : 0x10 ≤ n) (high : n < 0x30) (v : Byte) :
    s.ioWrite n v = { s with apu := s.apu.write s.params n v } := by
  interval_cases n <;> rfl

theorem State.ioRead_wave (s : State) {n : Nat} (low : 0x30 ≤ n) (high : n < 0x40) :
    s.ioRead n = s.ram.read (0xFF00 + n) := by
  interval_cases n <;> rfl

theorem State.ioWrite_wave (s : State) {n : Nat} (low : 0x30 ≤ n) (high : n < 0x40) (v : Byte) :
    s.ioWrite n v = { s with ram := s.ram.write (0xFF00 + n) v } := by
  interval_cases n <;> rfl

/-- Settles O53: reads and writes register by register, then the bus. -/
theorem apuRegisters : Obligations.ApuRegisters := by
  unfold Obligations.ApuRegisters
  refine ⟨fun params a reg v => ⟨?_, ?_, ?_, ?_, ?_, ?_⟩, fun s a v => ⟨fun low high => ?_, fun low high => ?_⟩⟩
  · simp only [List.forall_mem_cons, List.not_mem_nil, false_imp_iff, implies_true, and_true]
    exact ⟨nr10_byte .., duty_byte .., rfl, readControl_eq .., duty_byte .., rfl, readControl_eq .., dac_byte ..,
      volume_byte .., readControl_eq .., rfl, rfl, readControl_eq .., rfl, rfl, a.readNr52_eq⟩
  · revert reg
    simp only [List.forall_mem_cons, List.not_mem_nil, false_imp_iff, implies_true, and_true]
    exact ⟨rfl, rfl, rfl, rfl, rfl, rfl, rfl, rfl, rfl, rfl, rfl, rfl, rfl, rfl, rfl, rfl⟩
  · intro on dac dac_eq
    have checked : dacOn params v = dac := (dacOn_eq params v).trans dac_eq.symm
    simp only [a.write_on params _ v on]
    refine ⟨?_, ?_, ?_⟩
    · simp only [List.forall_mem_cons, List.not_mem_nil, false_imp_iff, implies_true, and_true]
      rw [← checked]
      simp only [← frequencyLow_eq]
      exact ⟨rfl, rfl, rfl, rfl, rfl, rfl, rfl, rfl, rfl, rfl, rfl, rfl, rfl, rfl, rfl, rfl⟩
    · revert reg
      simp only [List.forall_mem_cons, List.not_mem_nil, false_imp_iff, implies_true, and_true]
      exact ⟨rfl, rfl, rfl, rfl, rfl, rfl, rfl, rfl, rfl, rfl, rfl⟩
    · exact fun bit => a.writeNr52_same v (bit.trans on.symm)
  · intro off bit
    exact (a.write_off params _ v off).trans (a.writeNr52_on v off bit)
  · intro off
    simp only [a.write_off params _ v off]
    exact ⟨a.writeOff_other reg v, rfl, rfl, rfl, rfl, fun bit => a.writeNr52_same v (bit.trans off.symm)⟩
  · rintro on bit _ rfl
    have down : a.write params 0x26 v = a.powerOff := (a.write_on params _ v on).trans (a.writeNr52_off v on bit)
    rw [down]
    refine ⟨rfl, rfl, rfl, rfl, rfl, rfl, rfl, rfl, rfl, rfl, rfl, ?_⟩
    unfold Apu.read
    split
    case h_1 => exact (by decide : (1#1 ++ 0#7 : Byte) = 0x80)
    case h_2 | h_5 => exact (by decide : (0#2 ++ 0x3F#6 : Byte) = 0x3F)
    case h_4 | h_7 | h_10 | h_13 => exact readControl_eq false
    case h_8 => exact dac_byte false
    case h_9 => exact (by decide : (1#1 ++ 0#2 ++ 0x1F#5 : Byte) = 0x9F)
    case h_16 => exact a.readNr52_powerOff
    case h_17 => simp
    all_goals rfl
  · rw [s.memRead_io (by omega) (by omega), s.memWrite_io (by omega) (by omega), s.ioRead_sound (by omega) (by omega),
      s.ioWrite_sound (by omega) (by omega)]
    exact ⟨rfl, rfl⟩
  · have offset : 0xFF00 + (a.toNat - 0xFF00) = a.toNat := by omega
    have read (t : State) : t.memRead a = t.ram.read a.toNat := by
      rw [t.memRead_io (by omega) (by omega), t.ioRead_wave (by omega) (by omega), offset]
    have write : s.memWrite a v = { s with ram := s.ram.write a.toNat v } := by
      rw [s.memWrite_io (by omega) (by omega), s.ioWrite_wave (by omega) (by omega), offset]
    refine ⟨read s, write, ?_⟩
    rw [read, write]
    exact Memory.read_write_same ..

end Sys2Proof.Machine

/-! # The frame sequencer, its steps, NRx4 and the channel timers (63_apu.md R550 to R563) -/

namespace Sys2Proof.Machine

/-! ### The sequencer (R550, R551, 92_eei_decisions.md D41) -/

theorem Apu.advance_sequencer (m : Memory) (n : Nat) {a : Apu} (on : a.power = true) (counter : a.fsCounter < 8192)
    (step : a.fsStep < 8) :
    (Apu.advance m n a).power = true ∧ (Apu.advance m n a).fsCounter < 8192 ∧ (Apu.advance m n a).fsStep < 8 ∧
    (Apu.advance m n a).fsStep * 8192 + (Apu.advance m n a).fsCounter =
      (a.fsStep * 8192 + a.fsCounter + n) % 65536 := by
  induction n generalizing a with
  | zero => exact ⟨on, counter, step, by rw [Apu.advance]; omega⟩
  | succ n ih =>
    obtain ⟨power, fsCounter, fsStep⟩ := Apu.tick_sequencer m on
    obtain ⟨counter', step', position⟩ := Apu.counted_range counter step
    rw [← fsCounter] at counter' position
    rw [← fsStep] at step' position
    obtain ⟨power', counter'', step'', total⟩ := ih power counter' step'
    refine ⟨power', counter'', step'', total.trans ?_⟩
    rw [position]
    omega

theorem Apu.tick_on {a : Apu} (m : Memory) (on : a.power = true) : a.tick m = a.tickSequencer.tickTimers m := if_pos on

theorem Apu.tickSequencer_eq (a : Apu) :
    a.tickSequencer =
      if a.fsCounter = 8191 then { Apu.runStep a.fsStep { a with fsCounter := 0 } with fsStep := (a.fsStep + 1) % 8 }
      else { a with fsCounter := a.fsCounter + 1 } := by
  have full : a.fsCounter + 1 = 8192 ↔ a.fsCounter = 8191 := by omega
  simp only [Apu.tickSequencer, full]

/-! ### Sweep (R557, R558, 92_eei_decisions.md D57) -/

theorem Sweep.period_eq (s : Sweep) : s.period = s.nr10.toNat / 16 := by
  unfold Sweep.period
  generalize s.nr10 = r
  revert r; decide

theorem Sweep.shift_eq (s : Sweep) : s.shift = s.nr10.toNat % 8 := by
  unfold Sweep.shift
  generalize s.nr10 = r
  revert r; decide

/-- The calculation on a frequency `f` (R558). -/
def Sweep.next (s : Sweep) (f : Nat) : Nat :=
  if s.nr10.getLsbD 3 then f - f / 2 ^ (s.nr10.toNat % 8) else f + f / 2 ^ (s.nr10.toNat % 8)

theorem Sweep.calc_eq (s : Sweep) : s.calc = s.next s.shadow.toNat := by
  simp only [Sweep.calc, Sweep.next, Sweep.shift_eq]

theorem Sweep.reloadValue_eq (s : Sweep) :
    s.reloadValue = if s.nr10.toNat / 16 = 0 then 8 else s.nr10.toNat / 16 := by
  rw [Sweep.reloadValue, Sweep.period_eq]

/-- The sweep counter reloaded (R557). -/
def Apu.sweepReloaded (a : Apu) : Apu := { a with sweep := { a.sweep with counter := a.sweep.reloadValue } }

section
variable {a : Apu}

/-- A sweep counter of 2 or more counts down. -/
theorem Apu.tickSweep_counts (high : 2 ≤ a.sweep.counter) :
    a.tickSweep = { a with sweep := { a.sweep with counter := a.sweep.counter - 1 } } := by
  have down : decremented 0 a.sweep.counter = a.sweep.counter - 1 := if_neg (by omega)
  rw [Apu.tickSweep, down, if_neg (by omega)]

/-- With the sweep disabled or without a period, one of 1 reloads and nothing follows. -/
theorem Apu.tickSweep_idle (one : a.sweep.counter = 1) (idle : a.sweep.enabled = false ∨ a.sweep.period = 0) :
    a.tickSweep = a.sweepReloaded := by
  have zero : decremented 0 a.sweep.counter = 0 := by rw [one]; rfl
  have skipped : (a.sweep.enabled && decide (a.sweep.period ≠ 0)) = false := by
    obtain off | none := idle
    · rw [off]; rfl
    · rw [none]; exact Bool.and_false _
  rw [Apu.tickSweep, if_pos zero, skipped]
  rfl

/-- Else the calculation follows the reload. -/
theorem Apu.tickSweep_runs (one : a.sweep.counter = 1) (enabled : a.sweep.enabled = true)
    (period : a.sweep.period ≠ 0) : a.tickSweep = a.sweepReloaded.applySweep := by
  have zero : decremented 0 a.sweep.counter = 0 := by rw [one]; rfl
  rw [Apu.tickSweep, if_pos zero, enabled, decide_eq_true period]
  rfl

theorem Apu.applySweep_overflow (high : 2047 < a.sweep.calc) :
    a.applySweep = { a with ch1 := { a.ch1 with enabled := false } } := by
  rw [Apu.applySweep, Sweep.overflows, decide_eq_true high]
  rfl

theorem Apu.applySweep_still (low : a.sweep.calc ≤ 2047) (shift : a.sweep.shift = 0) : a.applySweep = a := by
  rw [Apu.applySweep, Sweep.overflows, decide_eq_false (Nat.not_lt.mpr low), shift]
  rfl

/-- The frequency is written back and the calculation checked once more. -/
theorem Apu.applySweep_writes (low : a.sweep.calc ≤ 2047) (shift : a.sweep.shift ≠ 0) :
    a.applySweep = { a with
      sweep := { a.sweep with shadow := BitVec.ofNat 11 a.sweep.calc }
      ch1 := { a.ch1 with frequency := BitVec.ofNat 11 a.sweep.calc,
                          enabled := a.ch1.enabled && decide (a.sweep.next a.sweep.calc ≤ 2047) } } := by
  have written : (BitVec.ofNat 11 a.sweep.calc).toNat = a.sweep.calc := by rw [BitVec.toNat_ofNat]; omega
  have again : (!Sweep.overflows { a.sweep with shadow := BitVec.ofNat 11 a.sweep.calc }) =
      decide (a.sweep.next a.sweep.calc ≤ 2047) := by
    rw [Sweep.overflows, Sweep.calc_eq, written, ← decide_not]
    exact decide_eq_decide.mpr Nat.not_lt
  rw [Apu.applySweep, Sweep.overflows, decide_eq_false (Nat.not_lt.mpr low), if_neg shift]
  simp only [again]
  rfl

end

/-! ### Envelope (R559) -/

section
variable (r : Byte) (e : Envelope)

theorem nrx2_period (r : Byte) : (r.setWidth 3 : BitVec 3) = 0 ↔ r.toNat % 8 = 0 := by revert r; decide

theorem Envelope.tick_off (none : r.toNat % 8 = 0) : e.tick r = e := by
  rw [Envelope.tick, if_pos ((nrx2_period r).mpr none)]

theorem Envelope.tick_counts (period : r.toNat % 8 ≠ 0) (high : 2 ≤ e.counter.toNat) :
    e.tick r = { e with counter := e.counter - 1 } := by
  have running : ¬ e.counter = 0 := by bv_omega
  have left : ¬ e.counter - 1 = 0 := by bv_omega
  simp only [Envelope.tick, if_neg (mt (nrx2_period r).mp period), if_neg running, if_neg left]

/-- The volume one step on, at most 15 and at least 0. -/
theorem volume_step (up : Bool) (volume : BitVec 4) :
    (if up then (if volume = 15 then 15 else volume + 1) else (if volume = 0 then 0 else volume - 1)) =
      BitVec.ofNat 4 (if up then min 15 (volume.toNat + 1) else volume.toNat - 1) := by
  revert up volume; decide

theorem Envelope.tick_moves (period : r.toNat % 8 ≠ 0) (low : e.counter.toNat < 2) :
    e.tick r = { counter := r.setWidth 3,
                 volume := BitVec.ofNat 4
                   (if r.getLsbD 3 then min 15 (e.volume.toNat + 1) else e.volume.toNat - 1) } := by
  have ended : (if e.counter = 0 then e.counter else e.counter - 1) = 0 := by
    split
    · assumption
    · bv_omega
  simp only [Envelope.tick, if_neg (mt (nrx2_period r).mp period), ended, if_true, volume_step]

end

/-! ### NRx4 (R554, R556, 92_eei_decisions.md D54, D55) -/

theorem Apu.extraDecrement_eq (a : Apu) (was now : Bool) (n : Nat) :
    a.extraDecrement was now n = (decide (was = false) && now && decide (a.fsStep % 2 = 1) && decide (0 < n)) := by
  cases was <;> rfl

/-- A frequency whose three high bits a write of NRx4 gives. -/
def frequencyHigh (v : Byte) (f : BitVec 11) : BitVec 11 := v.extractLsb' 0 3 ++ f.extractLsb' 0 8

theorem frequencyHigh_eq (v : Byte) (f : BitVec 11) : v.setWidth 3 ++ f.setWidth 8 = frequencyHigh v f := by
  rw [BitVec.setWidth_eq_extractLsb' (by decide), BitVec.setWidth_eq_extractLsb' (by decide), frequencyHigh]

/-- A length counter after the extra decrement, if there is one. -/
def countedLength (extra : Bool) (n : Nat) : Nat := if extra then n - 1 else n

section
variable (p : Params) (extra : Bool) (v : Byte)

theorem Pulse.writeControl_plain (c : Pulse) (bit : v.getLsbD 7 = false) :
    c.writeControl p extra v = { c with
      lengthEnable := v.getLsbD 6, frequency := frequencyHigh v c.frequency, length := countedLength extra c.length,
      enabled := c.enabled && !(extra && decide (c.length = 1)) } := by
  rw [Pulse.writeControl, bit]
  cases extra <;> simp [frequencyHigh_eq, countedLength]

theorem Pulse.writeControl_triggers (c : Pulse) (bit : v.getLsbD 7 = true) :
    c.writeControl p extra v = { c with
      lengthEnable := v.getLsbD 6, frequency := frequencyHigh v c.frequency, enabled := c.enabled || dacOn p c.nrx2,
      length := if countedLength extra c.length = 0 then 64 - c.lengthLoad.toNat else countedLength extra c.length,
      timer := (2048 - (frequencyHigh v c.frequency).toNat) * 4, dutyPos := 0, envelope := Envelope.start c.nrx2 } := by
  rw [Pulse.writeControl, bit]
  cases extra <;> simp [frequencyHigh_eq, countedLength, Pulse.trigger, Pulse.period]

end

section
variable (a : Apu) (p : Params) (v : Byte)

/-- The extra decrement of a write of NRx4 (R556). -/
def Apu.extraAt (lengthEnable : Bool) (length : Nat) : Bool := a.extraDecrement lengthEnable (v.getLsbD 6) length

theorem Sweep.trigger_eq (s : Sweep) (f : BitVec 11) :
    s.trigger f = { s with
      shadow := f, counter := if s.nr10.toNat / 16 = 0 then 8 else s.nr10.toNat / 16,
      enabled := decide (s.nr10.toNat / 16 ≠ 0 ∨ s.nr10.toNat % 8 ≠ 0) } := by
  simp only [Sweep.trigger, Sweep.reloadValue_eq, Sweep.period_eq, Sweep.shift_eq, Bool.decide_or]

/-- The trigger's first calculation disables the channel where the shift is not 0 (R554). -/
theorem Apu.writeNr14_triggers (bit : v.getLsbD 7 = true) :
    a.writeNr14 p v = { a with
      ch1 := { a.ch1.writeControl p (a.extraAt v a.ch1.lengthEnable a.ch1.length) v with
        enabled := (a.ch1.enabled || dacOn p a.ch1.nrx2) && !(decide (a.sweep.nr10.toNat % 8 ≠ 0) &&
          decide (2047 < a.sweep.next (frequencyHigh v a.ch1.frequency).toNat)) }
      sweep := a.sweep.trigger (frequencyHigh v a.ch1.frequency) } := by
  simp only [Apu.writeNr14, bit, if_true, Pulse.writeControl_triggers p _ v _ bit, Sweep.overflows, Sweep.calc_eq,
    Sweep.shift_eq]
  rfl

theorem Apu.writeNr14_plain (bit : v.getLsbD 7 = false) :
    a.writeNr14 p v = { a with ch1 := a.ch1.writeControl p (a.extraAt v a.ch1.lengthEnable a.ch1.length) v } := by
  rw [Apu.writeNr14, bit]
  rfl

theorem Apu.writeNr34_plain (bit : v.getLsbD 7 = false) :
    a.writeNr34 v = { a with ch3 := { a.ch3 with
      lengthEnable := v.getLsbD 6, frequency := frequencyHigh v a.ch3.frequency,
      length := countedLength (a.extraAt v a.ch3.lengthEnable a.ch3.length) a.ch3.length,
      enabled := a.ch3.enabled && !(a.extraAt v a.ch3.lengthEnable a.ch3.length && decide (a.ch3.length = 1)) } } := by
  rw [Apu.writeNr34, bit]
  unfold Apu.extraAt
  cases a.extraDecrement a.ch3.lengthEnable (v.getLsbD 6) a.ch3.length <;> simp [frequencyHigh_eq, countedLength]

theorem Apu.writeNr34_triggers (bit : v.getLsbD 7 = true) :
    a.writeNr34 v = { a with ch3 := { a.ch3 with
      lengthEnable := v.getLsbD 6, frequency := frequencyHigh v a.ch3.frequency,
      enabled := a.ch3.enabled || a.ch3.dacOn,
      length := if countedLength (a.extraAt v a.ch3.lengthEnable a.ch3.length) a.ch3.length = 0
        then 256 - a.ch3.lengthLoad.toNat
        else countedLength (a.extraAt v a.ch3.lengthEnable a.ch3.length) a.ch3.length,
      timer := (2048 - (frequencyHigh v a.ch3.frequency).toNat) * 2, position := 0 } } := by
  rw [Apu.writeNr34, bit]
  unfold Apu.extraAt
  cases a.extraDecrement a.ch3.lengthEnable (v.getLsbD 6) a.ch3.length <;>
    simp [frequencyHigh_eq, countedLength, Wave.trigger, Wave.period]

theorem Apu.writeNr44_plain (bit : v.getLsbD 7 = false) :
    a.writeNr44 p v = { a with ch4 := { a.ch4 with
      lengthEnable := v.getLsbD 6,
      length := countedLength (a.extraAt v a.ch4.lengthEnable a.ch4.length) a.ch4.length,
      enabled := a.ch4.enabled && !(a.extraAt v a.ch4.lengthEnable a.ch4.length && decide (a.ch4.length = 1)) } } := by
  rw [Apu.writeNr44, bit]
  unfold Apu.extraAt
  cases a.extraDecrement a.ch4.lengthEnable (v.getLsbD 6) a.ch4.length <;> simp [countedLength]

theorem Apu.writeNr44_triggers (bit : v.getLsbD 7 = true) :
    a.writeNr44 p v = { a with ch4 := { a.ch4 with
      lengthEnable := v.getLsbD 6, enabled := a.ch4.enabled || dacOn p a.ch4.nr42,
      length := if countedLength (a.extraAt v a.ch4.lengthEnable a.ch4.length) a.ch4.length = 0
        then 64 - a.ch4.lengthLoad.toNat
        else countedLength (a.extraAt v a.ch4.lengthEnable a.ch4.length) a.ch4.length,
      timer := a.ch4.period, envelope := Envelope.start a.ch4.nr42, lfsr := 0x7FFF } } := by
  rw [Apu.writeNr44, bit]
  unfold Apu.extraAt
  cases a.extraDecrement a.ch4.lengthEnable (v.getLsbD 6) a.ch4.length <;>
    simp [countedLength, Noise.trigger, Noise.period]

end

/-! ### Channel timers (R561 to R563) -/

theorem decremented_of_two_le {n : Nat} (k : Nat) (high : 2 ≤ n) : decremented k n = n - 1 := if_neg (by omega)

theorem Noise.period_eq (c : Noise) :
    c.period = (if c.nr43.toNat % 8 = 0 then 8 else 16 * (c.nr43.toNat % 8)) * 2 ^ (c.nr43.toNat / 16 + 1) := by
  have code : (c.nr43.setWidth 3 : BitVec 3).toNat = c.nr43.toNat % 8 := BitVec.toNat_setWidth ..
  have shift : (c.nr43.extractLsb' 4 4).toNat = c.nr43.toNat / 16 := by
    generalize c.nr43 = r
    revert r; decide
  rw [Noise.period, noiseDivisor, code, shift]

theorem Pulse.tickTimer_off {c : Pulse} (k : Nat) (off : c.enabled = false) : c.tickTimer k = c := by
  rw [Pulse.tickTimer, off]; rfl

theorem Pulse.tickTimer_counts {c : Pulse} (k : Nat) (on : c.enabled = true) (high : 2 ≤ c.timer) :
    c.tickTimer k = { c with timer := c.timer - 1 } := by
  have left : ¬ c.timer - 1 = 0 := by omega
  simp only [Pulse.tickTimer, on, if_true, decremented_of_two_le k high, if_neg left]

theorem Pulse.tickTimer_moves {c : Pulse} (k : Nat) (on : c.enabled = true) (one : c.timer = 1) :
    c.tickTimer k = { c with timer := c.period, dutyPos := c.dutyPos + 1 } := by
  have ended : decremented k c.timer = 0 := by rw [one]; rfl
  simp only [Pulse.tickTimer, on, if_true, ended]

theorem Wave.tickTimer_off {c : Wave} (m : Memory) (off : c.enabled = false) : c.tickTimer m = c := by
  rw [Wave.tickTimer, off]; rfl

theorem Wave.tickTimer_counts {c : Wave} (m : Memory) (on : c.enabled = true) (high : 2 ≤ c.timer) :
    c.tickTimer m = { c with timer := c.timer - 1 } := by
  have left : ¬ c.timer - 1 = 0 := by omega
  simp only [Wave.tickTimer, on, if_true, decremented_of_two_le 3 high, if_neg left]

theorem Wave.tickTimer_moves {c : Wave} (m : Memory) (on : c.enabled = true) (one : c.timer = 1) :
    c.tickTimer m =
      { c with timer := c.period, position := c.position + 1, sample := waveSample m (c.position + 1) } := by
  have ended : decremented 3 c.timer = 0 := by rw [one]; rfl
  simp only [Wave.tickTimer, on, if_true, ended]

theorem Noise.tickTimer_off {c : Noise} (off : c.enabled = false) : c.tickTimer = c := by
  rw [Noise.tickTimer, off]; rfl

theorem Noise.tickTimer_counts {c : Noise} (on : c.enabled = true) (high : 2 ≤ c.timer) :
    c.tickTimer = { c with timer := c.timer - 1 } := by
  have left : ¬ c.timer - 1 = 0 := by omega
  simp only [Noise.tickTimer, on, if_true, decremented_of_two_le 4 high, if_neg left]

theorem Noise.tickTimer_moves {c : Noise} (on : c.enabled = true) (one : c.timer = 1) :
    c.tickTimer = { c with timer := c.period, lfsr := lfsrStep (c.nr43.getLsbD 3) c.lfsr } := by
  have ended : decremented 4 c.timer = 0 := by rw [one]; rfl
  simp only [Noise.tickTimer, on, if_true, ended]

/-- The sample at a position, the high nibble of its byte where the position is even (R562). -/
theorem waveSample_eq (m : Memory) (position : BitVec 5) :
    waveSample m position =
      if position.toNat % 2 = 0 then (m.read (0xFF30 + position.toNat / 2)).extractLsb' 4 4
      else (m.read (0xFF30 + position.toNat / 2)).extractLsb' 0 4 := by
  have odd : position.getLsbD 0 = decide (¬ position.toNat % 2 = 0) := by revert position; decide
  rw [waveSample, odd, BitVec.setWidth_eq_extractLsb' (by decide)]
  simp only [decide_eq_true_eq, ite_not]

/-- Bit by bit, the shift register moves down and takes in the sum of its two low bits (R563). -/
theorem lfsrStep_getLsbD (narrow : Bool) (x : BitVec 15) {k : Nat} (hk : k < 15) :
    (lfsrStep narrow x).getLsbD k =
      if k = 14 ∨ (k = 6 ∧ narrow = true) then (x.getLsbD 0 ^^ x.getLsbD 1) else x.getLsbD (k + 1) := by
  cases narrow
  · simp only [lfsrStep, Bool.false_eq_true, if_false, BitVec.getLsbD_append, BitVec.getLsbD_extractLsb']
    interval_cases k <;> simp
  · simp only [lfsrStep, if_true, BitVec.getLsbD_append, BitVec.getLsbD_extractLsb']
    interval_cases k <;> simp

theorem dutyPos_next (d : BitVec 3) : d + 1 = BitVec.ofNat 3 ((d.toNat + 1) % 8) := by revert d; decide

theorem position_next (d : BitVec 5) : d + 1 = BitVec.ofNat 5 ((d.toNat + 1) % 32) := by revert d; decide

theorem position_next_toNat (d : BitVec 5) : (d + 1).toNat = (d.toNat + 1) % 32 := by revert d; decide

/-! ### The example of R554 -/

theorem Apu.readNr52_bit_zero (a : Apu) : a.readNr52.getLsbD 0 = a.ch1.enabled := by
  unfold Apu.readNr52
  generalize a.power = power, a.ch4.enabled = ch4, a.ch3.enabled = ch3, a.ch2.enabled = ch2, a.ch1.enabled = ch1
  revert power ch4 ch3 ch2 ch1
  decide

/-- The envelope of the example has its DAC on in either variant (92_eei_decisions.md D43). -/
theorem dacOn_0xF0 (p : Params) : dacOn p 0xF0 = true := by
  cases check : p.dacCheck with
  | nibble => rw [dacOn_nibble check]; decide
  | fiveBits => rw [dacOn_fiveBits check]; decide

theorem Pulse.tickLength_expires {c : Pulse} (counting : c.lengthEnable = true) (one : c.length = 1) :
    c.tickLength = { c with length := 0, enabled := false } := by
  simp [Pulse.tickLength, lengthTick, lengthExpires, counting, one]

/-- A trigger by NR14 starts a note of one length tick, whether or not the extra decrement comes first. -/
theorem Apu.writeNr14_starts (p : Params) {a : Apu} (still : a.sweep.nr10 = 0) (nrx2 : a.ch1.nrx2 = 0xF0)
    (load : a.ch1.lengthLoad = 63) (length : a.ch1.length = 1) :
    (a.writeNr14 p 0xC0).ch1.enabled = true ∧ (a.writeNr14 p 0xC0).ch1.length = 1 ∧
      (a.writeNr14 p 0xC0).ch1.lengthEnable = true := by
  have bit : (0xC0 : Byte).getLsbD 7 = true := by decide
  rw [Apu.writeNr14_triggers a p _ bit, Pulse.writeControl_triggers p _ _ _ bit, nrx2, dacOn_0xF0, still, Bool.or_true,
    load, length]
  refine ⟨rfl, ?_, (by decide : (0xC0 : Byte).getLsbD 6 = true)⟩
  cases a.extraAt 0xC0 a.ch1.lengthEnable 1 <;> rfl

/-- Writes of NR11, NR12 and NR14 start a note of one length tick. -/
theorem Apu.note_started (p : Params) {a b : Apu} (on : a.power = true) (still : a.sweep.nr10 = 0)
    (written : b = ((a.write p 0x11 0x3F).write p 0x12 0xF0).write p 0x14 0xC0) :
    b.ch1.enabled = true ∧ b.ch1.length = 1 ∧ b.ch1.lengthEnable = true := by
  have nr11 : a.write p 0x11 0x3F = { a with ch1 := a.ch1.writeLength 0x3F } := a.write_on p _ _ on
  have nr12 : Apu.write p { a with ch1 := a.ch1.writeLength 0x3F } 0x12 0xF0 =
      { a with ch1 := (a.ch1.writeLength 0x3F).writeEnvelope p 0xF0 } := Apu.write_on _ p _ _ on
  have nr14 : Apu.write p { a with ch1 := (a.ch1.writeLength 0x3F).writeEnvelope p 0xF0 } 0x14 0xC0 =
      Apu.writeNr14 p { a with ch1 := (a.ch1.writeLength 0x3F).writeEnvelope p 0xF0 } 0xC0 := Apu.write_on _ p _ _ on
  rw [written, nr11, nr12, nr14]
  exact Apu.writeNr14_starts p still rfl rfl rfl

/-- Settles O54: part by part, where the functions a part binds are those of the model. -/
theorem apuSequencerAndChannels : Obligations.ApuSequencerAndChannels := by
  unfold Obligations.ApuSequencerAndChannels
  refine ⟨?_, ?_, fun _ => ⟨rfl, rfl, rfl, rfl, rfl, rfl, rfl, rfl⟩, ?_, ?_, ?_, ?_, ?_, ?_, ?_, ?_⟩
  · rintro m a _ n on counter step rfl
    exact Apu.advance_sequencer m n on counter step
  · intro p a b on still written
    obtain ⟨enabled, length, lengthEnable⟩ := Apu.note_started p on still written
    have ticked := Pulse.tickLength_expires lengthEnable length
    exact ⟨enabled, length, b.readNr52_bit_zero.trans enabled, congrArg Pulse.enabled ticked,
      congrArg Pulse.length ticked, (Apu.readNr52_bit_zero _).trans (congrArg Pulse.enabled ticked)⟩
  · intro a len live len_eq live_eq
    obtain rfl : len = lengthTick := funext₂ len_eq
    obtain rfl : live = fun en n => !lengthExpires en n := funext₂ live_eq
    rfl
  · rintro a _ _ _ newFreq rfl rfl rfl newFreq_eq
    obtain rfl : newFreq = a.sweep.next := funext newFreq_eq
    refine ⟨Apu.tickSweep_counts, ?_⟩
    rintro one _ rfl
    rw [← a.sweep.reloadValue_eq, ← a.sweep.period_eq, ← a.sweep.shift_eq, ← a.sweep.calc_eq]
    refine ⟨fun still => ?_, fun enabled period high => ?_, fun enabled period low shift => ?_⟩
    · by_cases idle : a.sweep.enabled = false ∨ a.sweep.period = 0
      · exact Apu.tickSweep_idle one idle
      · obtain ⟨low, shift⟩ := (or_assoc.mpr still).resolve_left idle
        obtain ⟨enabled, period⟩ := not_or.mp idle
        exact (Apu.tickSweep_runs one (Bool.eq_true_of_not_eq_false enabled) period).trans
          (Apu.applySweep_still low shift)
    · exact (Apu.tickSweep_runs one enabled period).trans (Apu.applySweep_overflow high)
    · exact (Apu.tickSweep_runs one enabled period).trans (Apu.applySweep_writes low shift)
  · intro a next next_eq
    obtain rfl : next = Envelope.tick := by
      funext r e
      obtain ⟨off, counts, moves⟩ := next_eq r e
      by_cases none : r.toNat % 8 = 0
      · rw [off none, Envelope.tick_off r e none]
      · by_cases high : 2 ≤ e.counter.toNat
        · rw [counts none high, Envelope.tick_counts r e none high]
        · have low := Nat.lt_of_not_le high
          rw [moves none low _ rfl, Envelope.tick_moves r e none low, BitVec.setWidth_eq_extractLsb' (by decide)]
    rfl
  · intro params a v extra count dac freq on extra_eq count_eq dac_eq freq_eq
    obtain rfl : extra = a.extraAt v := funext₂ fun was n => (extra_eq was n).trans (a.extraDecrement_eq ..).symm
    obtain rfl : count = fun was n => countedLength (a.extraAt v was n) n := funext₂ count_eq
    obtain rfl : dac = dacOn params := funext fun r => (dac_eq r).trans (dacOn_eq params r).symm
    obtain rfl : freq = frequencyHigh v := funext freq_eq
    simp only [a.write_on params _ v on]
    constructor
    · intro bit live live_eq
      obtain rfl : live = fun was n => !(a.extraAt v was n && decide (n = 1)) := funext₂ live_eq
      simp only [List.forall_mem_cons, List.not_mem_nil, false_imp_iff, implies_true, and_true]
      have nr14 := a.writeNr14_plain params v bit
      rw [Pulse.writeControl_plain params _ v _ bit] at nr14
      have nr24 := Pulse.writeControl_plain params (a.extraAt v a.ch2.lengthEnable a.ch2.length) v a.ch2 bit
      exact ⟨nr14, congrArg (fun c => { a with ch2 := c }) nr24, a.writeNr34_plain v bit,
        a.writeNr44_plain params v bit⟩
    · rintro bit full _ _ _ _ full_eq rfl rfl rfl rfl
      obtain rfl : full = fun n l => if n = 0 then l else n := funext₂ full_eq
      simp only [List.forall_mem_cons, List.not_mem_nil, false_imp_iff, implies_true, and_true]
      have nr14 := a.writeNr14_triggers params v bit
      rw [Pulse.writeControl_triggers params _ v _ bit, Sweep.trigger_eq] at nr14
      have nr24 := Pulse.writeControl_triggers params (a.extraAt v a.ch2.lengthEnable a.ch2.length) v a.ch2 bit
      have nr44 := a.writeNr44_triggers params v bit
      rw [Noise.period_eq] at nr44
      exact ⟨nr14, congrArg (fun c => { a with ch2 := c }) nr24, a.writeNr34_triggers v bit, nr44⟩
  · rintro m a _ rfl
    rw [← a.tickSequencer_eq]
    exact ⟨Apu.tick_off m, Apu.tick_on m⟩
  · intro k c
    refine ⟨Pulse.tickTimer_off k, Pulse.tickTimer_counts k, fun on one => ?_⟩
    rw [Pulse.tickTimer_moves k on one, dutyPos_next]
    rfl
  · rintro m c _ _ rfl rfl
    refine ⟨Wave.tickTimer_off m, Wave.tickTimer_counts m, fun on one => ?_⟩
    rw [Wave.tickTimer_moves m on one, waveSample_eq, position_next_toNat, position_next]
    rfl
  · intro c next next_eq
    obtain rfl : next = lfsrStep (c.nr43.getLsbD 3) c.lfsr := BitVec.eq_of_getLsbD_eq fun k hk =>
      (next_eq k hk).trans (lfsrStep_getLsbD _ _ hk).symm
    refine ⟨Noise.tickTimer_off, Noise.tickTimer_counts, fun on one => ?_⟩
    rw [Noise.tickTimer_moves on one, Noise.period_eq]

end Sys2Proof.Machine
